-- ==== Sys2Proof/Word.lean ====
section
/-! DEFINITION. The word types of the part: every port of the LK40 carries 8-bit characters (chapter
*Frame and Record Layouts*); every other quantity of the manual is a number with a stated range and is
held as a `Nat` or an `Int`. -/

namespace Sys2Proof

/-- One 8-bit character of a port, or one byte of a frame. -/
abbrev Byte := BitVec 8

/-- One character as a receiver sees it: its 8 bits, and whether its stop bit was present
(R123, R163: a character received with a missing stop bit is a fault). -/
structure LineChar where
  code   : Byte
  stopOk : Bool
deriving DecidableEq, Repr

/-- A character received with its stop bit. -/
def goodChar (b : Byte) : LineChar := ⟨b, true⟩

end Sys2Proof
end

