-- ==== Sys2Proof/Syntax.lean ====
section
/-! DEFINITION. The commands of the block: one constructor per row of spec/opcode_table.json. A gateway
command row carries the ARGUMENT BYTES of its frame as the newsroom computer sent them, so that the length
test of R167 and the decoding of R176 belong to the model. A row at which a port receives characters carries
those characters; what they amount to is decided by the port's receiver (R123, R156, R163). -/

namespace Sys2Proof

/-- A scroll channel. -/
inductive ChannelId where
  | a
  | b
deriving DecidableEq, Repr

/-- The level of the GW_RATE strap (low: 115200 baud, high: 460800 baud). -/
inductive Strap where
  | low
  | high
deriving DecidableEq, Repr

/-- The commands and events that reach the part, one constructor per row of spec/opcode_table.json. -/
inductive Instr where
  /-- POWER_ON_RESET (R175): power becomes good. -/
  | powerOnReset
  /-- RESET_ASSERTED (R175): the RESET line goes low. -/
  | resetAsserted
  /-- START_UP_COMPLETE (R175): start-up ends and GW_RATE is sampled at the given level. -/
  | startUpComplete (gwRate : Strap)
  /-- STORY_NEW (R14): a frame with code 0x10. -/
  | storyNew (args : List Byte)
  /-- STORY_MOVE (R15): a frame with code 0x11. -/
  | storyMove (args : List Byte)
  /-- STORY_FLOAT (R12): a frame with code 0x12. -/
  | storyFloat (args : List Byte)
  /-- STORY_RESTORE (R12): a frame with code 0x13. -/
  | storyRestore (args : List Byte)
  /-- STORY_KILL (R10): a frame with code 0x14. -/
  | storyKill (args : List Byte)
  /-- STORY_PROPS (R16): a frame with code 0x15. -/
  | storyProps (args : List Byte)
  /-- STORY_LOCK (R13): a frame with code 0x16. -/
  | storyLock (args : List Byte)
  /-- STORY_UNLOCK (R13): a frame with code 0x17. -/
  | storyUnlock (args : List Byte)
  /-- STORY_SPLICE (R34): a frame with code 0x18. -/
  | storySplice (args : List Byte)
  /-- STORY_READ (R36): a frame with code 0x19. -/
  | storyRead (args : List Byte)
  /-- STORY_INFO (R17): a frame with code 0x1A. -/
  | storyInfo (args : List Byte)
  /-- STORY_CHECK (R38): a frame with code 0x1B. -/
  | storyCheck (args : List Byte)
  /-- STORY_CHECK_COMPLETION (R41): the CRC of a check in flight is finished. -/
  | storyCheckCompletion
  /-- ORDER_LIST (R18): a frame with code 0x20. -/
  | orderList (args : List Byte)
  /-- RUNDOWN_CLEAR (R19): a frame with code 0x21. -/
  | rundownClear (args : List Byte)
  /-- RUNDOWN_CLEAR_COMPLETION (R19): a clear in flight is finished. -/
  | rundownClearCompletion
  /-- CUES_REARM (R116): a frame with code 0x22. -/
  | cuesRearm (args : List Byte)
  /-- CHANNEL_LOAD (R45): a frame with code 0x30. -/
  | channelLoad (args : List Byte)
  /-- CHANNEL_RUN (R46): a frame with code 0x31. -/
  | channelRun (args : List Byte)
  /-- CHANNEL_PARK (R47): a frame with code 0x32. -/
  | channelPark (args : List Byte)
  /-- CHANNEL_UNLOAD (R48): a frame with code 0x33. -/
  | channelUnload (args : List Byte)
  /-- CHANNEL_TUNE (R49): a frame with code 0x34. -/
  | channelTune (args : List Byte)
  /-- CHANNEL_STATUS (R50): a frame with code 0x35. -/
  | channelStatus (args : List Byte)
  /-- STATION_SET (R132): a frame with code 0x40. -/
  | stationSet (args : List Byte)
  /-- STATION_STATUS (R133): a frame with code 0x41. -/
  | stationStatus (args : List Byte)
  /-- HEAD_SET (R151): a frame with code 0x48. -/
  | headSet (args : List Byte)
  /-- HEAD_STATUS (R152): a frame with code 0x49. -/
  | headStatus (args : List Byte)
  /-- CLOCK_SET (R98): a frame with code 0x50. -/
  | clockSet (args : List Byte)
  /-- CLOCK_HOLD (R99): a frame with code 0x51. -/
  | clockHold (args : List Byte)
  /-- CLOCK_RESUME (R100): a frame with code 0x52. -/
  | clockResume (args : List Byte)
  /-- TIMING_READ (R109): a frame with code 0x53. -/
  | timingRead (args : List Byte)
  /-- GEOMETRY_SET (R29): a frame with code 0x60. -/
  | geometrySet (args : List Byte)
  /-- GEOMETRY_RECOMPUTE_COMPLETION (R31): a recompute in flight is finished. -/
  | geometryRecomputeCompletion
  /-- LEAD_SET (R113): a frame with code 0x61. -/
  | leadSet (args : List Byte)
  /-- CUE_OUTPUT_SET (R111): a frame with code 0x62. -/
  | cueOutputSet (args : List Byte)
  /-- DEVICE_STATUS (R173): a frame with code 0x63. -/
  | deviceStatus (args : List Byte)
  /-- IDENTIFY (R174): a frame with code 0x64. -/
  | identify (args : List Byte)
  /-- UNKNOWN_COMMAND (R166): a good frame whose code is outside the catalogue. -/
  | unknownCommand (code : Byte) (args : List Byte)
  /-- FAULTY_FRAME (R166): the characters of a frame that ends faulty. -/
  | faultyFrame (chars : List LineChar)
  /-- GATEWAY_GAP_EXPIRY (R163): the gateway's 20 ms gap timer expires. -/
  | gatewayGapExpiry
  /-- BUSY_REPLY (R169): the characters of a frame that ends while a command is in flight. -/
  | busyReply (chars : List LineChar)
  /-- GATEWAY_TX_DONE (R168): the link has sent a response or a BUSY reply whole. -/
  | gatewayTxDone
  /-- CHANNEL_STEP_EXPIRY (R51): the step timer of a channel expires. -/
  | channelStepExpiry (c : ChannelId)
  /-- SECOND_EXPIRY (R101): the show clock's second timer expires. -/
  | secondExpiry
  /-- STATION_REPORT (R126): the characters of a REPORT frame arrive at a station port. -/
  | stationReport (port : Fin 4) (chars : List Byte)
  /-- STATION_FRAMING_FAULT (R123): the character that makes the framing fault arrives. -/
  | stationFramingFault (port : Fin 4) (char : LineChar)
  /-- STATION_GAP_EXPIRY (R123): a gap of more than 5 ms inside a station frame. -/
  | stationGapExpiry (port : Fin 4)
  /-- LAPSE_EXPIRY (R129): the lapse timer of a station expires. -/
  | lapseExpiry (port : Fin 4)
  /-- ANSWER_TX_DONE (R131): a station port has sent an ANSWER whole. -/
  | answerTxDone (port : Fin 4)
  /-- CUE_PULSE_EXPIRY (R112): the pulse timer of a cue output expires (0 is CUE1). -/
  | cuePulseExpiry (output : Fin 4)
  /-- FETCH (R157): the characters of a FETCH frame arrive at a head port. -/
  | fetch (head : Fin 4) (chars : List Byte)
  /-- HEAD_FRAMING_FAULT (R156): the character that makes the framing fault arrives. -/
  | headFramingFault (head : Fin 4) (char : LineChar)
  /-- HEAD_GAP_EXPIRY (R156): a gap of more than 5 ms inside a FETCH frame. -/
  | headGapExpiry (head : Fin 4)
  /-- HEAD_TX_DONE (R161): a head port has sent a frame whole. -/
  | headTxDone (head : Fin 4)
deriving DecidableEq, Repr

/-- The command codes of the catalogue of R171. -/
def catalogueCodes : List Nat :=
  [0x10, 0x11, 0x12, 0x13, 0x14, 0x15, 0x16, 0x17, 0x18, 0x19, 0x1A, 0x1B, 0x20, 0x21, 0x22,
   0x30, 0x31, 0x32, 0x33, 0x34, 0x35, 0x40, 0x41, 0x48, 0x49, 0x50, 0x51, 0x52, 0x53,
   0x60, 0x61, 0x62, 0x63, 0x64]

end Sys2Proof
end

