-- ==== Sys2Proof/Machine/State.lean ====
section
/-! DEFINITION. The state of the LK40: every register, flag, timer, queue and buffer the manual names, grouped
by the block that owns it (00_scope.md, section 2), and the queue of commands that wait. Reset values stand in
`State.held` (the values after power-on reset and after RESET, start-up not yet complete) and `State.reset`
(the same once start-up has completed). -/

namespace Sys2Proof.Machine

/-! ## Timers -/

/-- A timer: `none` is stopped, `some n` is running with `n` ms left. A timer at `some 0` has run out and its
expiry is due; the expiry itself is a command of the table. -/
abbrev Timer := Option Nat

/-! ## The rundown store (R1 to R21) -/

/-- Air state of a story (section 1.3). -/
inductive AirState where
  | standby
  | aired
  | doomed
deriving DecidableEq, Repr

/-- Lock of a story (R13). -/
inductive Lock where
  | none
  | editor
  | final
deriving DecidableEq, Repr

/-- Kind of a line (section 2.1). -/
inductive LineKind where
  | read
  | direction
deriving DecidableEq, Repr

/-- Height class of a line (section 2.1). -/
inductive HeightClass where
  | small
  | standard
  | large
  | spacer
deriving DecidableEq, Repr

/-- The line record (R22). `cue` is 0 for no cue, or the number 1..4 of a cue output. -/
structure Line where
  text  : List Byte
  kind  : LineKind
  cls   : HeightClass
  cue   : Fin 5
  fired : Bool
deriving DecidableEq, Repr

/-- The story record (R1). The line count n is the length of `lines`. The slug is absent when `slug` is empty
(R1: a slug of 0 characters is held as absent). The open set is the pair of flags `openA`, `openB`.
`pendingG` is the G the story will have under the pending height table while a geometry recompute is in
flight (R29). -/
structure Story where
  id            : Nat
  air           : AirState
  floated       : Bool
  lock          : Lock
  autoRetire    : Bool
  openA         : Bool
  openB         : Bool
  slug          : List Byte
  p             : Option Nat
  lines         : List Line
  g             : Nat
  generation    : Nat
  checkInFlight : Bool
  pendingG      : Option Nat
deriving DecidableEq, Repr

/-! ## The line pool (R22 to R42) -/

/-- The height table (R27). -/
structure Heights where
  small    : Nat
  standard : Nat
  large    : Nat
  spacer   : Nat
  slugBand : Nat
deriving DecidableEq, Repr

/-! ## The scroll channels (R43 to R66) -/

/-- Channel state (R43). -/
inductive ChannelState where
  | unloaded
  | parked
  | live
deriving DecidableEq, Repr

/-- Shape of the speed law (R68). -/
inductive Curve where
  | linear
  | square
deriving DecidableEq, Repr

/-- A read point (R44): story, line index k, offset o, fraction in 1/256 row. -/
structure ReadPoint where
  story : Nat
  k     : Nat
  o     : Nat
  frac  : Nat
deriving DecidableEq, Repr

/-- A mark record (R118): story ID, line index and T_off at the press. -/
structure Mark where
  story : Nat
  k     : Nat
  tOff  : Int
deriving DecidableEq, Repr

/-- The eight tuning fields of a channel (section 3.1). -/
structure Tuning where
  vmax     : Nat
  vrev     : Nat
  dz       : Nat
  curve    : Curve
  rampUp   : Nat
  rampDown : Nat
  jogStep  : Nat
  guard    : Nat
deriving DecidableEq, Repr

/-- The channel record (section 3.1). -/
structure Channel where
  state        : ChannelState
  readPoint    : Option ReadPoint
  speed        : Int
  target       : Int
  tuning       : Tuning
  paused       : Bool
  endFlag      : Bool
  startFlag    : Bool
  storyChanged : Bool
  ownerChanged : Bool
  endReached   : Bool
  marked       : Bool
  mark         : Option Mark
  stepTimer    : Bool
deriving DecidableEq, Repr

/-! ## The show clock (R97 to R110) -/

/-- Clock state (R97). -/
inductive ClockState where
  | stopped
  | counting
deriving DecidableEq, Repr

/-- The show clock (section 6.1). -/
structure Clock where
  tOff         : Int
  state        : ClockState
  secondTimer  : Timer
  offAirPassed : Bool
deriving DecidableEq, Repr

/-! ## The cue unit (R111 to R120) -/

/-- Action of a cue output (R112). -/
inductive CueAction where
  | pulse
  | toggle
  | high
  | low
deriving DecidableEq, Repr

/-- Level of a line. -/
inductive Level where
  | low
  | high
deriving DecidableEq, Repr

/-- One cue output (section 7.1). -/
structure CueOutput where
  action : CueAction
  width  : Nat
  level  : Level
  pulse  : Timer
deriving DecidableEq, Repr

/-- The cue unit: four outputs (index 0 is CUE1), the lead selection, the cue record (section 7.4). -/
structure CueUnit where
  outputs : Vector CueOutput 4
  lead    : ChannelId
  lastCue : Fin 5
  count   : Nat
deriving DecidableEq, Repr

/-! ## The station ports and the control arbiter (R121 to R149) -/

/-- Role of a station (section 8.1). -/
inductive Role where
  | off
  | presenter
  | operator
deriving DecidableEq, Repr

/-- State of a station (R121). -/
inductive StationState where
  | off
  | silent
  | active
deriving DecidableEq, Repr

/-- The six button levels of a REPORT (R125). -/
structure Buttons where
  pause   : Bool
  mark    : Bool
  next    : Bool
  prev    : Bool
  take    : Bool
  release : Bool
deriving DecidableEq, Repr

/-- The levels of an accepted REPORT (R127). -/
structure Levels where
  d       : Int
  j       : Int
  buttons : Buttons
deriving DecidableEq, Repr

/-- Tally of a station (R148). -/
inductive Tally where
  | owner
  | waiting
  | lockedOut
  | free
  | overridden
deriving DecidableEq, Repr

/-- Status of an ANSWER (R126). -/
inductive AnswerStatus where
  | accepted
  | checkError
  | rejected
deriving DecidableEq, Repr

/-- An ANSWER (R130). -/
structure Answer where
  status   : AnswerStatus
  tally    : Tally
  speedBar : Nat
  paused   : Bool
deriving DecidableEq, Repr

/-- The receiver of a station or head port (R123, R156): looking for a start marker, holding a start marker,
or holding a length byte and the characters received after it (body, then check byte). -/
inductive PortRx where
  | hunting
  | marker
  | body (len : Nat) (got : List Byte)
deriving DecidableEq, Repr

/-- The station record (section 8.1), the port's receiver with its 5 ms gap timer, its ANSWER transmitter and
waiting slot (R131), and the per-station fields of the control arbiter (section 9.1). -/
structure Station where
  role          : Role
  channel       : ChannelId
  rank          : Nat
  state         : StationState
  lastLevels    : Option Levels
  lapse         : Timer
  checkFlag     : Bool
  framingFlag   : Bool
  fieldFlag     : Bool
  lapseFlag     : Bool
  rx            : PortRx
  gap           : Timer
  sending       : Option Answer
  waitingAnswer : Option Answer
  held          : Option Int
  takeLatch     : Bool
  overridden    : Bool
deriving DecidableEq, Repr

/-- The arbitration record of a channel (section 9.1). The owner idle time counts while there is an owner. -/
structure Arbitration where
  owner     : Option (Fin 4)
  waiting   : List (Fin 4)
  lastLoser : Option (Fin 4)
  idle      : Nat
deriving DecidableEq, Repr

/-! ## The head ports (R150 to R162) -/

/-- A line or slug record as a lookup returns it (R36, R37, R159). -/
inductive Rec where
  | slug (text : List Byte)
  | line (l : Line)
deriving DecidableEq, Repr

/-- A position frame (R153). -/
structure PosFrame where
  channel    : ChannelId
  state      : ChannelState
  story      : Nat
  generation : Nat
  k          : Nat
  o          : Nat
  frac       : Nat
  speed      : Int
  endFlag    : Bool
  startFlag  : Bool
  paused     : Bool
  ownerRole  : Role
  float      : Int
  tOff       : Int
deriving DecidableEq, Repr

/-- A FETCH answer (R158). -/
inductive FetchAnswer where
  | lines (story first generation n : Nat) (recs : List Rec)
  | stale (story first generation : Nat)
  | range (story first generation n : Nat)
  | gone (story first : Nat)
  | busy (story first : Nat)
deriving DecidableEq, Repr

/-- A frame of a head port's transmitter. -/
inductive HeadFrame where
  | position (f : PosFrame)
  | geometry (h : Heights)
  | answer (a : FetchAnswer)
deriving DecidableEq, Repr

/-- A FETCH request as taken from its frame (R156). -/
structure Request where
  story      : Nat
  generation : Option Nat
  first      : Nat
  count      : Nat
deriving DecidableEq, Repr

/-- Kind of the last frame the transmitter started (section 10.1). -/
inductive FrameKind where
  | answer
  | position
deriving DecidableEq, Repr

/-- The head record (section 10.1) and the port's receiver with its 5 ms gap timer (R156). The transmitter is
idle when `sending` is `none`. -/
structure Head where
  attachment  : Option ChannelId
  requests    : List Request
  answers     : List FetchAnswer
  waitingPos  : Option PosFrame
  pendingGeom : Option Heights
  lastKind    : FrameKind
  overrun     : Bool
  sending     : Option HeadFrame
  rx          : PortRx
  gap         : Timer
deriving DecidableEq, Repr

/-! ## The gateway link (R163 to R175) -/

/-- Status of a gateway response (R170). -/
inductive Status where
  | ok
  | unknown
  | frame
  | length
  | argument
  | notFound
  | duplicate
  | tableFull
  | poolEmpty
  | lineLimit
  | state
  | locked
  | onAir
  | busy
  | gone
deriving DecidableEq, Repr

/-- Outcome of STORY KILL (R10). -/
inductive KillOutcome where
  | retired
  | deferred
deriving DecidableEq, Repr

/-- One entry of ORDER LIST (R18). -/
structure OrderEntry where
  id      : Nat
  air     : AirState
  floated : Bool
deriving DecidableEq, Repr

/-- The story record as STORY INFO reports it (R17). -/
structure StoryReport where
  id         : Nat
  air        : AirState
  floated    : Bool
  autoRetire : Bool
  checking   : Bool
  lock       : Lock
  openA      : Bool
  openB      : Bool
  p          : Option Nat
  n          : Nat
  g          : Nat
  generation : Nat
  position   : Nat
  slug       : List Byte
deriving DecidableEq, Repr

/-- The channel record as CHANNEL STATUS reports it (R50). -/
structure ChannelReport where
  state        : ChannelState
  readPoint    : Option (ReadPoint × Nat)
  speed        : Int
  target       : Int
  tuning       : Tuning
  paused       : Bool
  endFlag      : Bool
  startFlag    : Bool
  storyChanged : Bool
  ownerChanged : Bool
  endReached   : Bool
  marked       : Bool
  mark         : Option Mark
  owner        : Option (Fin 4 × Role)
  cueRecord    : Option (Fin 5 × Nat)
deriving DecidableEq, Repr

/-- The station record as STATION STATUS reports it (R133). -/
structure StationReport where
  role        : Role
  channel     : ChannelId
  rank        : Nat
  state       : StationState
  lastLevels  : Option Levels
  tally       : Tally
  checkFlag   : Bool
  framingFlag : Bool
  fieldFlag   : Bool
  lapseFlag   : Bool
  lapseTime   : Nat
  handOff     : Nat
deriving DecidableEq, Repr

/-- The head record as HEAD STATUS reports it (R152). -/
structure HeadReport where
  attachment  : Option ChannelId
  requests    : Nat
  answers     : Nat
  posWaits    : Bool
  geomPending : Bool
  overrun     : Bool
deriving DecidableEq, Repr

/-- The timing values TIMING READ reports (R109). -/
structure TimingReport where
  tOff         : Int
  clock        : ClockState
  pt           : Int
  lead         : ChannelId
  story        : Nat
  rem          : Int
  showRem      : Int
  float        : Int
  untimed      : Nat
  offAirPassed : Bool
deriving DecidableEq, Repr

/-- The ATTENTION sources of R172. -/
structure Sources where
  channelA : Bool
  channelB : Bool
  cue      : Bool
  stations : Vector Bool 4
  heads    : Vector Bool 4
  offAir   : Bool
deriving DecidableEq, Repr

/-- The payload of a response (the catalogue of R171). -/
inductive Payload where
  | empty
  | liveCount (n : Nat)
  | floated (b : Bool)
  | kill (o : KillOutcome)
  | props (p : Option Nat) (substituted generation : Nat)
  | lock (l : Lock)
  | splice (n g generation substituted : Nat)
  | lines (id generation n first : Nat) (recs : List Rec)
  | info (r : StoryReport)
  | check (crc n generation : Nat)
  | order (more : Bool) (entries : List OrderEntry)
  | storyCount (n : Nat)
  | rearmed (n : Nat)
  | loaded (rp : ReadPoint) (k generation : Nat)
  | channelState (c : ChannelState)
  | readPoint (rp : ReadPoint)
  | tuning (t : Tuning)
  | channel (r : ChannelReport)
  | stationSet (role : Role) (channel : ChannelId) (rank : Nat) (state : StationState) (lapseTime handOff : Nat)
  | station (r : StationReport)
  | attachment (a : Option ChannelId)
  | head (r : HeadReport)
  | tOff (t : Int)
  | clock (t : Int) (c : ClockState)
  | timing (r : TimingReport)
  | heights (h : Heights)
  | lead (c : ChannelId)
  | cueOutput (action : CueAction) (width : Nat) (level : Level)
  | device (pending : Sources) (lead : ChannelId) (freeLines liveStories : Nat)
  | identity (vendor part revision : Nat)
deriving DecidableEq, Repr

/-- A response or BUSY reply (R165): status, echoed command code, payload. -/
structure Response where
  status  : Status
  echo    : Byte
  payload : Payload
deriving DecidableEq, Repr

/-- A command that takes time and is in flight (R168): what its completion needs. -/
inductive Operation where
  /-- STORY CHECK of the named story. -/
  | check (id : Nat)
  /-- RUNDOWN CLEAR, with the number of stories live when it was taken. -/
  | clear (stories : Nat)
  /-- GEOMETRY SET; the pending table is held by the line pool. -/
  | geometry
deriving DecidableEq, Repr

/-- Link state (section 11.2). EXECUTING holds the command that takes time; a command that completes when it is
taken passes through EXECUTING within its step. ANSWERING holds the frame being sent. -/
inductive LinkState where
  | idle
  | executing (op : Operation)
  | answering (frame : Response)
deriving DecidableEq, Repr

/-- The gateway receiver (R163): looking for a start marker, holding a start marker, or holding a length byte
and the characters received after it (body, then CRC). -/
inductive GatewayRx where
  | hunting
  | marker
  | body (len : Nat) (got : List Byte)
deriving DecidableEq, Repr

/-- The gateway link: its state, the busy-reply slot (the code the BUSY reply echoes), the receiver and its
20 ms gap timer, and the rate sampled from GW_RATE. -/
structure Link where
  state : LinkState
  slot  : Option Byte
  rx    : GatewayRx
  gap   : Timer
  rate  : Strap
deriving DecidableEq, Repr

/-! ## The whole part -/

/-- The state of the LK40. `stories` holds the occupied slots of the story table in running order: the running
order is the order of the list, and the story index is the lookup by ID (R3, R4). -/
structure State where
  /-- story table and running order (R1, R3) -/
  stories         : List Story
  /-- planned total PT (R11) -/
  pt              : Nat
  /-- RUNDOWN CLEAR in progress (R19) -/
  clearInProgress : Bool
  /-- height table in effect (R27) -/
  heights         : Heights
  /-- pending height table of a geometry recompute (R29) -/
  pendingHeights  : Option Heights
  /-- number of line records in the free set (R25) -/
  freeLines       : Nat
  /-- scroll channel A -/
  channelA        : Channel
  /-- scroll channel B -/
  channelB        : Channel
  /-- arbitration record of channel A -/
  arbiterA        : Arbitration
  /-- arbitration record of channel B -/
  arbiterB        : Arbitration
  /-- station ports 0 to 3 -/
  stations        : Vector Station 4
  /-- device-wide lapse time, ms (R122) -/
  lapseTime       : Nat
  /-- device-wide hand-off interval, ms (R122) -/
  handOff         : Nat
  /-- show clock -/
  clock           : Clock
  /-- cue unit -/
  cues            : CueUnit
  /-- head ports 0 to 3 -/
  heads           : Vector Head 4
  /-- gateway link -/
  link            : Link
  /-- start-up has completed since the last reset (R175) -/
  started         : Bool
  /-- the model's own field: the commands that wait, first in, first out -/
  pending         : List Instr
deriving DecidableEq, Repr

/-- Reasons for which the part stops. The manual gives the LK40 no condition in which it stops: every event has
an effect, a refusal status in a response, or no effect. The type has no constructor, so no step faults. -/
inductive Fault
deriving DecidableEq, Repr

/-- Reasons for which the model gives no step. -/
inductive Refusal where
  /-- Raised by `exec` for a row without a meaning; no row is left without one. Safe. -/
  | notModelled (mnemonic : String)
  /-- Raised by a gateway command row whose argument bytes are more than 249: R163 bounds a body to 250 bytes,
  so no frame carries such a command. Safe: the machine cannot be given it. -/
  | noSuchFrame
deriving DecidableEq, Repr

/-! ## Reset values -/

/-- The height table after reset (R42). -/
def Heights.reset : Heights := ⟨24, 32, 48, 16, 48⟩

/-- The tuning after reset (section 3.1). -/
def Tuning.reset : Tuning := ⟨640, 320, 6, .square, 3, 6, 8, 2⟩

/-- A channel after reset, before start-up completes (R66): the step timer is not running yet. -/
def Channel.held : Channel :=
  { state := .unloaded, readPoint := none, speed := 0, target := 0, tuning := .reset, paused := false,
    endFlag := false, startFlag := false, storyChanged := false, ownerChanged := false, endReached := false,
    marked := false, mark := none, stepTimer := false }

/-- The show clock after reset (R110). -/
def Clock.reset : Clock := ⟨0, .stopped, none, false⟩

/-- A cue output after reset (R120). -/
def CueOutput.reset : CueOutput := ⟨.pulse, 40, .low, none⟩

/-- The cue unit after reset (R120). -/
def CueUnit.reset : CueUnit := ⟨#v[.reset, .reset, .reset, .reset], .a, 0, 0⟩

/-- A station port after reset (R135, R149); its rank is its port number. -/
def Station.reset (rank : Nat) : Station :=
  { role := .off, channel := .a, rank := rank, state := .off, lastLevels := none, lapse := none,
    checkFlag := false, framingFlag := false, fieldFlag := false, lapseFlag := false, rx := .hunting,
    gap := none, sending := none, waitingAnswer := none, held := none, takeLatch := false,
    overridden := false }

/-- An arbitration record after reset (R149). -/
def Arbitration.reset : Arbitration := ⟨none, [], none, 0⟩

/-- A head port after reset (R162). -/
def Head.reset : Head :=
  { attachment := none, requests := [], answers := [], waitingPos := none, pendingGeom := none,
    lastKind := .answer, overrun := false, sending := none, rx := .hunting, gap := none }

/-- The gateway link after reset (R175). The rate is the one in effect when no strap has been sampled yet.
DESIGN CHOICE (unsafe), notes/assumptions/1.md: the low strap's 115200 baud. -/
def Link.reset : Link := ⟨.idle, none, .hunting, none, .low⟩

/-- Every field at its reset value, start-up not yet complete: the part between power-on or RESET and the end of
start-up (R175). -/
def State.held : State :=
  { stories := [], pt := 0, clearInProgress := false, heights := .reset, pendingHeights := none,
    freeLines := 4096, channelA := .held, channelB := .held, arbiterA := .reset, arbiterB := .reset,
    stations := #v[.reset 0, .reset 1, .reset 2, .reset 3], lapseTime := 250, handOff := 1000,
    clock := .reset, cues := .reset, heads := #v[.reset, .reset, .reset, .reset], link := .reset,
    started := false, pending := [] }

/-- The part right after reset, once start-up has completed: the step timers run and the link receives (R66,
R175). notes/assumptions/1.md says why this moment is taken as the reset state. -/
def State.reset : State :=
  { State.held with
    channelA := { Channel.held with stepTimer := true }
    channelB := { Channel.held with stepTimer := true }
    started := true }

end Sys2Proof.Machine
end

