-- ==== Sys2Proof/Machine/Completion.lean ====
section
/-! DEFINITION. How a command of the catalogue ends when it is taken (R168). -/

namespace Sys2Proof.Machine

/-- A command taken by its block completes with a status and payload, or takes time. -/
inductive Taken where
  | done (status : Status) (payload : Payload)
  | running (op : Operation)
deriving DecidableEq, Repr

/-- A refused command leaves every block as it was and its response carries the status alone (R165, R170). -/
def refuse (status : Status) (s : State) : State × Taken := (s, .done status .empty)

/-- A command carried out. -/
def okay (payload : Payload) (s : State) : State × Taken := (s, .done .ok payload)

end Sys2Proof.Machine
end

