-- ==== Sys2Proof/Machine/Ops.lean ====
section
/-! DEFINITION. The named operations over the state: the one way each channel, arbitration record, station, head
and story is read and written. Every other file of the machine goes through these. -/

namespace Sys2Proof.Machine

/-! ## Channels and arbitration records -/

/-- The record of a scroll channel. -/
def State.channel (s : State) : ChannelId → Channel
  | .a => s.channelA
  | .b => s.channelB

/-- The state with a channel's record replaced. -/
def State.setChannel (s : State) (c : ChannelId) (ch : Channel) : State :=
  match c with
  | .a => { s with channelA := ch }
  | .b => { s with channelB := ch }

/-- The state with a channel's record changed. -/
def State.modChannel (s : State) (c : ChannelId) (f : Channel → Channel) : State :=
  s.setChannel c (f (s.channel c))

/-- The arbitration record of a channel. -/
def State.arbiter (s : State) : ChannelId → Arbitration
  | .a => s.arbiterA
  | .b => s.arbiterB

/-- The state with a channel's arbitration record replaced. -/
def State.setArbiter (s : State) (c : ChannelId) (r : Arbitration) : State :=
  match c with
  | .a => { s with arbiterA := r }
  | .b => { s with arbiterB := r }

/-- The state with a channel's arbitration record changed. -/
def State.modArbiter (s : State) (c : ChannelId) (f : Arbitration → Arbitration) : State :=
  s.setArbiter c (f (s.arbiter c))

/-! ## Stations, heads, cue outputs -/

/-- The record of a station port. -/
def State.station (s : State) (p : Fin 4) : Station := s.stations[p]

/-- The state with a station's record changed. -/
def State.modStation (s : State) (p : Fin 4) (f : Station → Station) : State :=
  { s with stations := s.stations.set p (f s.stations[p]) }

/-- The record of a head port. -/
def State.head (s : State) (h : Fin 4) : Head := s.heads[h]

/-- The state with a head's record changed. -/
def State.modHead (s : State) (h : Fin 4) (f : Head → Head) : State :=
  { s with heads := s.heads.set h (f s.heads[h]) }

/-- A cue output (0 is CUE1). -/
def State.output (s : State) (o : Fin 4) : CueOutput := s.cues.outputs[o]

/-- The state with a cue output changed. -/
def State.modOutput (s : State) (o : Fin 4) (f : CueOutput → CueOutput) : State :=
  { s with cues := { s.cues with outputs := s.cues.outputs.set o (f s.cues.outputs[o]) } }

/-- All port numbers, in order. -/
def ports : List (Fin 4) := [0, 1, 2, 3]

/-! ## Stories -/

/-- The number of lines n of a story. -/
def Story.n (st : Story) : Nat := st.lines.length

/-- Whether the open set of a story holds a channel (R5). -/
def Story.opens (st : Story) : ChannelId → Bool
  | .a => st.openA
  | .b => st.openB

/-- The story with a channel put into its open set or taken out of it. -/
def Story.setOpen (st : Story) (c : ChannelId) (v : Bool) : Story :=
  match c with
  | .a => { st with openA := v }
  | .b => { st with openB := v }

/-- No channel's read point lies in the story. -/
def Story.openEmpty (st : Story) : Bool := !st.openA && !st.openB

/-- A story is readable when it is live, not FLOATED and not DOOMED (R2). -/
def Story.readable (st : Story) : Bool := !st.floated && st.air != .doomed

/-- Whether a story counts in PT (R11). -/
def Story.counted (st : Story) : Bool := !st.floated && st.air != .doomed

/-- P with UNSET counted as 0 (R11). -/
def Story.seconds (st : Story) : Nat := st.p.getD 0

/-- The lookup by ID through the story index (R4): the record, or none when the ID is not live. -/
def State.story? (s : State) (id : Nat) : Option Story := s.stories.find? (fun st => st.id == id)

/-- Whether an ID is live (R4). -/
def State.isLive (s : State) (id : Nat) : Bool := (s.story? id).isSome

/-- The state with the record of a story changed. -/
def State.modStory (s : State) (id : Nat) (f : Story → Story) : State :=
  { s with stories := s.stories.map (fun st => if st.id = id then f st else st) }

/-- The readable stories after a story in the running order, nearest first (R54). -/
def State.readableAfter (s : State) (id : Nat) : List Nat :=
  (((s.stories.dropWhile (fun st => st.id != id)).drop 1).filter Story.readable).map Story.id

/-- The readable stories before a story in the running order, nearest first (R55). -/
def State.readableBefore (s : State) (id : Nat) : List Nat :=
  ((s.stories.takeWhile (fun st => st.id != id)).reverse.filter Story.readable).map Story.id

/-- The running order with a story inserted after its anchor, at the head for anchor 0 (R3). -/
def insertAfter (anchor : Nat) (st : Story) (order : List Story) : List Story :=
  if anchor = 0 then st :: order
  else
    match order with
    | [] => [st]
    | x :: xs => if x.id = anchor then x :: st :: xs else x :: insertAfter anchor st xs

/-- The running order without a story. -/
def removeStory (id : Nat) (order : List Story) : List Story := order.filter (fun st => st.id != id)

/-! ## Geometry (R27, R28, R44, R75) -/

/-- The height of a class in a height table. -/
def Heights.of (h : Heights) : HeightClass → Nat
  | .small => h.small
  | .standard => h.standard
  | .large => h.large
  | .spacer => h.spacer

/-- The height of a line in a height table. -/
def Line.height (h : Heights) (l : Line) : Nat := h.of l.cls

/-- The sum of the heights of some lines. -/
def linesHeight (h : Heights) (ls : List Line) : Nat := (ls.map (Line.height h)).sum

/-- The height of a whole story under a height table (R28). -/
def geometryOf (h : Heights) (ls : List Line) : Nat := h.slugBand + linesHeight h ls

/-- The height of index k of a story: Hs for the slug band, the height of line k otherwise (R44). -/
def Story.heightAt (st : Story) (h : Heights) (k : Nat) : Nat :=
  if k = 0 then h.slugBand
  else
    match st.lines[k - 1]? with
    | some l => l.height h
    | none => 0

/-- The first row of line k of a story (R75). -/
def Story.firstRow (st : Story) (h : Heights) (k : Nat) : Nat := h.slugBand + linesHeight h (st.lines.take (k - 1))

/-- The row of a read point within its story (R44). -/
def Story.rowOf (st : Story) (h : Heights) (k o : Nat) : Nat := if k = 0 then o else st.firstRow h k + o

/-- The line in which row x below the slug band lies, with the offset in it (R75). -/
def lineAtRow (h : Heights) (k x : Nat) : List Line → Nat × Nat
  | [] => (k, x)
  | l :: ls => if x < l.height h then (k, x) else lineAtRow h (k + 1) (x - l.height h) ls

/-- The line index and offset of a row of a story (R75). -/
def Story.pointAtRow (st : Story) (h : Heights) (r : Nat) : Nat × Nat :=
  if r < h.slugBand then (0, r) else lineAtRow h 1 (r - h.slugBand) st.lines

/-- The last row of a story as a read point with fraction 255 (R44, R56). -/
def Story.lastPoint (st : Story) (h : Heights) : ReadPoint := ⟨st.id, st.n, st.heightAt h st.n - 1, 255⟩

/-- The story a channel's read point lies in. -/
def State.currentStory (s : State) (c : ChannelId) : Option Story :=
  (s.channel c).readPoint.bind (fun rp => s.story? rp.story)

/-- The state with a channel's read point placed. -/
def State.place (s : State) (c : ChannelId) (rp : ReadPoint) : State :=
  s.modChannel c (fun ch => { ch with readPoint := some rp })

/-! ## The end of a command (R168) -/

/-- The link sends a response: it goes to ANSWERING with the response formed from the state at completion. -/
def State.respond (s : State) (status : Status) (echo : Byte) (payload : Payload) : State :=
  { s with link := { s.link with state := .answering ⟨status, echo, payload⟩ } }

/-! ## Lookup of records (R36, R37, R159) -/

/-- The record at index k of a story: the slug record at 0, a line record otherwise. -/
def Story.recAt (st : Story) (k : Nat) : Option Rec :=
  if k = 0 then some (.slug st.slug) else (st.lines[k - 1]?).map .line

/-- At most `count` records of a story from index `first`, in index order (R36, R159). -/
def Story.recsFrom (st : Story) (first count : Nat) : List Rec :=
  (List.range (min count (st.n + 1 - first))).filterMap (fun i => st.recAt (first + i))

end Sys2Proof.Machine
end

