-- ==== Sys2Proof/Machine/Flags.lean ====
section
/-! DEFINITION. The flags that software can see: the ATTENTION sources and line (R172), the tally of a station
(R148) and its speed bar (R130). Each is formed afresh from the state when it is asked for. -/

namespace Sys2Proof.Machine

/-- Any of a channel's four status flags is set (R65). -/
def Channel.flagsPending (ch : Channel) : Bool := ch.storyChanged || ch.ownerChanged || ch.endReached || ch.marked

/-- Any error flag of a station is set (R134). -/
def Station.errorPending (st : Station) : Bool := st.checkFlag || st.framingFlag || st.fieldFlag || st.lapseFlag

/-- The pending indications of the ATTENTION sources (R172, R173). -/
def State.sources (s : State) : Sources :=
  { channelA := s.channelA.flagsPending
    channelB := s.channelB.flagsPending
    cue := decide (0 < s.cues.count)
    stations := s.stations.map Station.errorPending
    heads := s.heads.map Head.overrun
    offAir := s.clock.offAirPassed }

/-- At least one source is pending. -/
def Sources.any (p : Sources) : Bool :=
  p.channelA || p.channelB || p.cue || p.stations.toList.any id || p.heads.toList.any id || p.offAir

/-- The level of the ATTENTION line (R172): high while at least one source is pending. -/
def State.attention (s : State) : Bool := s.sources.any

/-- The tally of a station, from the record of its bound channel (R148). -/
def State.tally (s : State) (p : Fin 4) : Tally :=
  let st := s.station p
  let arb := s.arbiter st.channel
  if arb.owner = some p then .owner
  else if p ∈ arb.waiting then .waiting
  else if arb.owner = none then .free
  else if st.overridden then .overridden
  else .lockedOut

/-- The speed bar of a channel (R130). -/
def Channel.speedBar (ch : Channel) : Nat :=
  if 0 < ch.speed then ch.speed.natAbs * 15 / ch.tuning.vmax
  else if ch.speed < 0 then ch.speed.natAbs * 15 / ch.tuning.vrev
  else 0

/-- The role of a channel's owner, OFF standing for none (R153). -/
def State.ownerRole (s : State) (c : ChannelId) : Role :=
  match (s.arbiter c).owner with
  | some p => (s.station p).role
  | none => .off

end Sys2Proof.Machine
end

