-- ==== Sys2Proof/Machine/Cues.lean ====
section
/-! DEFINITION. The cue unit at a line report, at a firing and at a MARK press (R112 to R118). -/

namespace Sys2Proof.Machine

/-- The opposite level. -/
def Level.opposite : Level → Level
  | .low => .high
  | .high => .low

/-- A cue output after its action has been applied (R112). -/
def CueOutput.fire (o : CueOutput) : CueOutput :=
  match o.action with
  | .pulse => { o with level := .high, pulse := some o.width }
  | .toggle => { o with level := o.level.opposite, pulse := none }
  | .high => { o with level := .high, pulse := none }
  | .low => { o with level := .low, pulse := none }

/-- The output a cue number drives: output n for cue number n, none for 0. -/
def cueOutput (cue : Fin 5) : Option (Fin 4) :=
  if h : cue.val = 0 then none else some ⟨cue.val - 1, by omega⟩

/-- Sets the fired flag of line k of a story. -/
def setFired (id k : Nat) (s : State) : State :=
  s.modStory id (fun st => { st with lines := st.lines.modify (k - 1) (fun l => { l with fired := true }) })

/-- A cue fires (R114): the output's action, the line's fired flag and the cue record (R117) as one act. -/
def fireCue (id k : Nat) (cue : Fin 5) (o : Fin 4) (s : State) : State :=
  let s' := setFired id k (s.modOutput o CueOutput.fire)
  { s' with cues := { s'.cues with lastCue := cue, count := min 255 (s'.cues.count + 1) } }

/-- A line report of a channel for line k of a story (R114). -/
def reportLine (c : ChannelId) (id k : Nat) (s : State) : State :=
  if s.cues.lead = c then
    match (s.story? id).bind (fun st => st.lines[k - 1]?) with
    | none => s
    | some l =>
      match cueOutput l.cue with
      | none => s
      | some o => if l.fired then s else fireCue id k l.cue o s
  else s

/-- Several line reports of one event, handled in turn in the order received (R115). -/
def reportLines (c : ChannelId) (id : Nat) (ks : List Nat) (s : State) : State :=
  ks.foldl (fun s k => reportLine c id k s) s

/-- The lines of a story whose first row lies within `lo..hi`, in line order (R82). -/
def Story.linesBetween (st : Story) (h : Heights) (lo hi : Nat) : List Nat :=
  ((List.range st.n).map (· + 1)).filter (fun k => decide (lo ≤ st.firstRow h k) && decide (st.firstRow h k ≤ hi))

/-- A MARK press for a channel (R118): nothing on an UNLOADED channel. -/
def markPress (c : ChannelId) (s : State) : State :=
  if (s.channel c).state = .unloaded then s
  else
    match (s.channel c).readPoint with
    | none => s
    | some rp =>
      s.modChannel c (fun ch => { ch with mark := some ⟨rp.story, rp.k, s.clock.tOff⟩, marked := true })

end Sys2Proof.Machine
end

