-- ==== Sys2Proof/Machine/Store.lean ====
section
/-! DEFINITION. What the rundown store does with a story at a notice: entry, the three kinds of leave, kill,
auto-retire and retirement (R5 to R11, R26, R41). -/

namespace Sys2Proof.Machine

/-- The kind of a leave notice (section 1.3). -/
inductive LeaveKind where
  | forward
  | backward
  | neutral
deriving DecidableEq, Repr

/-- Retirement (R9): a check in flight on the story ends with GONE (R41), the story leaves the running order and
the index, its lines return to the free set (R26), and P leaves PT when the story still counted in it (R11). -/
def retire (id : Nat) (s : State) : State :=
  match s.story? id with
  | none => s
  | some st =>
    let s' := if s.link.state = .executing (.check id) then s.respond .gone 0x1B .empty else s
    { s' with
      stories := removeStory id s'.stories
      freeLines := s'.freeLines + st.n
      pt := if st.counted then s'.pt - st.seconds else s'.pt }

/-- KILL and auto-retire (R10). -/
def kill (id : Nat) (s : State) : State × KillOutcome :=
  match s.story? id with
  | none => (s, .retired)
  | some st =>
    if st.openEmpty then (retire id s, .retired)
    else if st.air = .doomed then (s, .deferred)
    else
      ({ s.modStory id (fun x => { x with air := .doomed }) with
          pt := if st.floated then s.pt else s.pt - st.seconds }, .deferred)

/-- The air state after a leave (R6, R7, R8): only the lead channel's forward and backward leaves change it. -/
def airAfterLeave (kind : LeaveKind) (byLead : Bool) (air : AirState) : AirState :=
  match kind, byLead, air with
  | .forward, true, .standby => .aired
  | .backward, true, .aired => .standby
  | _, _, a => a

/-- An entry notice (R5), and the STORY CHANGED flag that each entry sets on its channel (R53, R65). -/
def enter (c : ChannelId) (id : Nat) (s : State) : State :=
  (s.modStory id (fun st => st.setOpen c true)).modChannel c (fun ch => { ch with storyChanged := true })

/-- A leave notice (R5 to R8): the air state first, then the open set, then the test for retirement, and for the
lead channel's forward leave of an AIRED auto-retire story the kill of R10. -/
def leave (c : ChannelId) (id : Nat) (kind : LeaveKind) (s : State) : State :=
  match s.story? id with
  | none => s
  | some st =>
    let byLead := decide (s.cues.lead = c)
    let st' := Story.setOpen { st with air := airAfterLeave kind byLead st.air } c false
    let s' := s.modStory id (fun x => Story.setOpen { x with air := airAfterLeave kind byLead x.air } c false)
    if st'.air = .doomed then (if st'.openEmpty then retire id s' else s')
    else if kind = .forward ∧ byLead = true ∧ st'.air = .aired ∧ st'.autoRetire = true then (kill id s').1
    else s'

/-- The move of a channel's read point into another story (R53): the read point is placed, then the leave of the
old story is taken, then the entry of the new one. -/
def cross (c : ChannelId) (old : Nat) (kind : LeaveKind) (rp : ReadPoint) (s : State) : State :=
  enter c rp.story (leave c old kind (s.place c rp))

end Sys2Proof.Machine
end

