-- ==== Sys2Proof/Machine/Motion.lean ====
section
/-! DEFINITION. The scroll channels in motion: the speed law (R67 to R70), the ramp (R71 to R73), the step update
(R76 to R79), crossings and clamps (R54 to R58), the jog walk (R80 to R82), the jumps of NEXT and PREV (R61,
R62), the pause (R63), the two notices of R59 and the unload of R48. -/

namespace Sys2Proof.Machine

/-! ## The speed law -/

/-- T as the deflection and the tuning give it (R67, R68): one floor on the size, before the sign. -/
def speedLaw (t : Tuning) (d : Int) : Int :=
  let m := d.natAbs - t.dz
  let span := 127 - t.dz
  let vlim := if 0 < d then t.vmax else t.vrev
  let size := match t.curve with
    | .linear => vlim * m / span
    | .square => vlim * m * m / (span * span)
  if d < 0 then -(size : Int) else (size : Int)

/-- T as the channel's condition forces it (R69). -/
def targetFor (s : State) (c : ChannelId) : Int :=
  let ch := s.channel c
  match (s.arbiter c).owner with
  | none => 0
  | some p =>
    let t := speedLaw ch.tuning ((s.station p).held.getD 0)
    if ch.state ≠ .live then 0
    else if ch.paused then 0
    else if ch.endFlag = true ∧ 0 < t then 0
    else if ch.startFlag = true ∧ t < 0 then 0
    else t

/-- The channel recomputes T (R52). -/
def recompute (c : ChannelId) (s : State) : State :=
  s.modChannel c (fun ch => { ch with target := targetFor s c })

/-! ## The ramp -/

/-- The new S of a step expiry (R71, R72, R73). -/
def ramp (t : Tuning) (speed target : Int) : Int :=
  if speed = target then speed
  else if speed = 0 ∨ (((0 < speed ∧ 0 < target) ∨ (speed < 0 ∧ target < 0)) ∧ speed.natAbs < target.natAbs) then
    let amount : Int := (min t.rampUp (target - speed).natAbs : Nat)
    if 0 < target then speed + amount else speed - amount
  else
    let amount : Int := (min t.rampDown (min speed.natAbs (speed - target).natAbs) : Nat)
    if 0 < speed then speed - amount else speed + amount

/-! ## What a movement does to END and START (R58) -/

/-- The read point has moved forward by at least one fraction: START is cleared, and the clearing recomputes T. -/
def movedForward (c : ChannelId) (s : State) : State :=
  if (s.channel c).startFlag then recompute c (s.modChannel c (fun ch => { ch with startFlag := false })) else s

/-- The read point has moved backward by at least one fraction: END is cleared, and the clearing recomputes T. -/
def movedBackward (c : ChannelId) (s : State) : State :=
  if (s.channel c).endFlag then recompute c (s.modChannel c (fun ch => { ch with endFlag := false })) else s

/-- The clamp at END in the story the read point has reached (R56): by step motion S becomes 0, by jog it is
kept. START is cleared when the clamp moved the read point (R58). -/
def clampEnd (c : ChannelId) (st : Story) (byStep : Bool) (s : State) : State :=
  let last := st.lastPoint s.heights
  let moved := decide ((s.channel c).readPoint ≠ some last)
  let s' := s.modChannel c (fun ch =>
    { ch with
      readPoint := some last
      endReached := ch.endReached || !ch.endFlag
      endFlag := true
      startFlag := ch.startFlag && !moved
      speed := if byStep then 0 else ch.speed })
  recompute c s'

/-- The clamp at START (R57). END is cleared when the clamp moved the read point (R58). -/
def clampStart (c : ChannelId) (st : Story) (byStep : Bool) (s : State) : State :=
  let top : ReadPoint := ⟨st.id, 0, 0, 0⟩
  let moved := decide ((s.channel c).readPoint ≠ some top)
  let s' := s.modChannel c (fun ch =>
    { ch with
      readPoint := some top
      startFlag := true
      endFlag := ch.endFlag && !moved
      speed := if byStep then 0 else ch.speed })
  recompute c s'

/-! ## The step update -/

/-- The forward update by `units` of 1/256 row (R76), with the crossing of R54, the clamp of R56 and the line
report of R79. -/
def stepForward (c : ChannelId) (units : Nat) (s : State) : State :=
  match (s.channel c).readPoint with
  | none => s
  | some rp =>
    match s.story? rp.story with
    | none => s
    | some st =>
      let total := rp.frac + units
      let frac := total % 256
      let o := rp.o + total / 256
      let h := st.heightAt s.heights rp.k
      if o < h then movedForward c (s.place c ⟨st.id, rp.k, o, frac⟩)
      else if rp.k < st.n then
        reportLine c st.id (rp.k + 1) (movedForward c (s.place c ⟨st.id, rp.k + 1, o - h, frac⟩))
      else
        match s.readableAfter st.id with
        | [] => clampEnd c st true s
        | next :: _ => movedForward c (cross c st.id .forward ⟨next, 0, o - h, frac⟩ s)

/-- The rows borrowed by a backward update of `units` from fraction `frac`: the least b with
frac + 256 b ≥ units (R77). -/
def borrow (frac units : Nat) : Nat := (units - frac + 255) / 256

/-- The backward update by `units` of 1/256 row (R77), with the crossing of R55 and the clamp of R57. -/
def stepBackward (c : ChannelId) (units : Nat) (s : State) : State :=
  match (s.channel c).readPoint with
  | none => s
  | some rp =>
    match s.story? rp.story with
    | none => s
    | some st =>
      let b := borrow rp.frac units
      let frac := rp.frac + 256 * b - units
      if b ≤ rp.o then movedBackward c (s.place c ⟨st.id, rp.k, rp.o - b, frac⟩)
      else if 0 < rp.k then
        movedBackward c
          (s.place c ⟨st.id, rp.k - 1, st.heightAt s.heights (rp.k - 1) + rp.o - b, frac⟩)
      else
        match s.readableBefore st.id with
        | [] => clampStart c st true s
        | before :: _ =>
          match s.story? before with
          | none => s
          | some st' =>
            movedBackward c
              (cross c st.id .backward ⟨st'.id, st'.n, st'.heightAt s.heights st'.n + rp.o - b, frac⟩ s)

/-- Ramp and motion of a LIVE channel at a step expiry (R51). -/
def rampAndMove (c : ChannelId) (s : State) : State :=
  let ch := s.channel c
  let speed := ramp ch.tuning ch.speed ch.target
  let s' := s.modChannel c (fun ch => { ch with speed := speed })
  if 0 < speed then stepForward c speed.toNat s'
  else if speed < 0 then stepBackward c (-speed).toNat s'
  else s'

/-! ## The jog -/

/-- The forward walk (R81, R82) from the current story to `target` rows below its row 0; `lo` is the first row a
line may start on to count as reached, `ahead` the readable stories after the current one. The search is made
before the leave of each story, and a leave changes the readability of no other story, so the stories ahead are
those found at the start of the walk. -/
def walkForward (c : ChannelId) (frac : Nat) : List Nat → Nat → Nat → State → State
  | ahead, lo, target, s =>
    match s.currentStory c with
    | none => s
    | some st =>
      if target < st.g then
        let ko := st.pointAtRow s.heights target
        movedForward c
          ((reportLines c st.id (st.linesBetween s.heights lo target) s).place c ⟨st.id, ko.1, ko.2, frac⟩)
      else
        match ahead with
        | [] => clampEnd c st false (reportLines c st.id (st.linesBetween s.heights lo (st.g - 1)) s)
        | next :: rest =>
          walkForward c frac rest 0 (target - st.g)
            (cross c st.id .forward ⟨next, 0, 0, frac⟩
              (reportLines c st.id (st.linesBetween s.heights lo (st.g - 1)) s))

/-- The backward walk (R81, R82): `row` rows lie above the point in the current story, `d` rows are still to be
walked, `behind` the readable stories before the current one. On its way it enters a story at the last row. -/
def walkBackward (c : ChannelId) (frac : Nat) : List Nat → Nat → Nat → State → State
  | behind, row, d, s =>
    match s.currentStory c with
    | none => s
    | some st =>
      if d ≤ row then
        let ko := st.pointAtRow s.heights (row - d)
        movedBackward c (s.place c ⟨st.id, ko.1, ko.2, frac⟩)
      else
        match behind with
        | [] => clampStart c st false s
        | before :: rest =>
          match s.story? before with
          | none => s
          | some st' =>
            walkBackward c frac rest st'.g (d - row)
              (cross c st.id .backward ⟨before, st'.n, st'.heightAt s.heights st'.n - 1, frac⟩ s)

/-- A jog of J detents (R64, R80): J × jog step rows, the fraction kept, S kept. A forward jog with END set and a
reverse jog with START set move nothing. -/
def jog (c : ChannelId) (j : Int) (s : State) : State :=
  let ch := s.channel c
  match ch.readPoint, s.currentStory c with
  | some rp, some st =>
    let row := st.rowOf s.heights rp.k rp.o
    let d := j.natAbs * ch.tuning.jogStep
    if 0 < j then
      if ch.endFlag then s else walkForward c rp.frac (s.readableAfter st.id) (row + 1) (row + d) s
    else if j < 0 then
      if ch.startFlag then s else walkBackward c rp.frac (s.readableBefore st.id) row d s
    else s
  | _, _ => s

/-! ## Jumps and presses -/

/-- The channel at rest after a jump: S and T 0, END and START clear (R45, R61, R62). T stays 0 until the next
event that recomputes it. DEDUCED (unsafe), notes/assumptions/6.md. -/
def atRest (c : ChannelId) (s : State) : State :=
  s.modChannel c (fun ch => { ch with speed := 0, target := 0, endFlag := false, startFlag := false })

/-- A NEXT press (R61). -/
def nextPress (c : ChannelId) (s : State) : State :=
  match (s.channel c).readPoint with
  | none => s
  | some rp =>
    match s.readableAfter rp.story with
    | [] => s
    | next :: _ => atRest c (cross c rp.story .forward ⟨next, 0, 0, 0⟩ s)

/-- A PREV press (R62). -/
def prevPress (c : ChannelId) (s : State) : State :=
  match (s.channel c).readPoint with
  | none => s
  | some rp =>
    if 0 < rp.k then
      s.modChannel c (fun ch =>
        { ch with readPoint := some ⟨rp.story, 0, 0, 0⟩, speed := 0, target := 0, endFlag := false })
    else
      match s.readableBefore rp.story with
      | [] => s
      | before :: _ => atRest c (cross c rp.story .backward ⟨before, 0, 0, 0⟩ s)

/-- A PAUSE press (R63). -/
def pausePress (c : ChannelId) (s : State) : State :=
  recompute c (s.modChannel c (fun ch => { ch with paused := !ch.paused }))

/-- The unload of CHANNEL UNLOAD and RUNDOWN CLEAR (R48): nothing on an UNLOADED channel. -/
def unload (c : ChannelId) (s : State) : State :=
  let ch := s.channel c
  if ch.state = .unloaded then s
  else
    let s' := match ch.readPoint with
      | some rp => leave c rp.story .neutral s
      | none => s
    s'.modChannel c (fun ch =>
      { ch with
        state := .unloaded
        readPoint := none
        speed := 0
        target := 0
        endFlag := false
        startFlag := false
        paused := false
        storyChanged := ch.storyChanged || ch.readPoint.isSome })

/-! ## Notices of the rundown around a clamped channel (R59) -/

/-- The order-change notice at one channel: END is cleared when a readable story lies after the current story,
START when one lies before it, and a clearing recomputes T. -/
def orderNoticeAt (c : ChannelId) (s : State) : State :=
  match (s.channel c).readPoint with
  | none => s
  | some rp =>
    let ch := s.channel c
    let clearsEnd := ch.endFlag && !(s.readableAfter rp.story).isEmpty
    let clearsStart := ch.startFlag && !(s.readableBefore rp.story).isEmpty
    if clearsEnd || clearsStart then
      recompute c (s.modChannel c (fun ch =>
        { ch with endFlag := ch.endFlag && !clearsEnd, startFlag := ch.startFlag && !clearsStart }))
    else s

/-- The order-change notice of R3, to both channels. -/
def orderNotice (s : State) : State := orderNoticeAt .b (orderNoticeAt .a s)

/-- The read point after a splice of its story (R87 to R90): k, m, c as the command gave them, n' the line count
after the splice. -/
def anchor (rp : ReadPoint) (k m c n' : Nat) : ReadPoint :=
  if rp.k < k then rp
  else if k + m ≤ rp.k ∨ m = 0 then { rp with k := rp.k + c - m }
  else if k ≤ n' then ⟨rp.story, k, 0, 0⟩
  else if 1 ≤ n' then ⟨rp.story, n', 0, 0⟩
  else ⟨rp.story, 0, 0, 0⟩

/-- The splice notice at one channel of the story's open set (R87, R91, R59): the read point is anchored, then END
is cleared and T recomputed when END was set and the read point is no longer the last row with fraction 255. -/
def spliceNoticeAt (c : ChannelId) (id k m added : Nat) (s : State) : State :=
  match (s.channel c).readPoint, s.story? id with
  | some rp, some st =>
    if rp.story = id ∧ st.opens c = true then
      let rp' := anchor rp k m added st.n
      let s' := s.place c rp'
      if (s.channel c).endFlag = true ∧ rp' ≠ st.lastPoint s.heights then
        recompute c (s'.modChannel c (fun ch => { ch with endFlag := false }))
      else s'
    else s
  | _, _ => s

/-- The adjustment of a PARKED channel at the completion of GEOMETRY SET (R31), under the new heights. -/
def geometryAdjust (c : ChannelId) (s : State) : State :=
  let ch := s.channel c
  match ch.readPoint, s.currentStory c with
  | some rp, some st =>
    if ch.state = .parked then
      if ch.endFlag then s.place c (st.lastPoint s.heights)
      else
        let h := st.heightAt s.heights rp.k
        if h ≤ rp.o then s.place c { rp with o := h - 1, frac := 0 } else s
    else s
  | _, _ => s

end Sys2Proof.Machine
end

