-- ==== Sys2Proof/Config.lean ====
section
/-! DEFINITION. What the manual leaves open and the model leaves free: constants without a body, so that
nothing can be proved of the values they take. -/

namespace Sys2Proof

/-- Whether STORY PROPS clamps an auto-retire byte that is neither 0 nor 1, to 1, the nearest end of its range
(00_scope.md, section 5.1), or refuses it ARGUMENT. R176 fixes the two values and says that the owning rule does one
or the other with an out-of-range value; R16, the owning rule, says neither.
DESIGN CHOICE (safe), notes/assumptions/5.md: a free value, a function of the byte received. -/
opaque Config.autoRetireClamps : Nat → Bool

end Sys2Proof
end

