-- ==== Sys2Proof/Machine/Checks.lean ====
section
/-! DEFINITION. Byte order and the two frame checks: the CRC of R40, which protects gateway frames (R164) and
is the result of STORY CHECK, and the end-around check byte of R124, which protects station and head frames. -/

namespace Sys2Proof.Machine

/-! ## Byte order (R176) -/

/-- One unsigned byte. -/
def u8 (n : Nat) : Byte := BitVec.ofNat 8 n

/-- Two bytes, most significant first. -/
def be16 (n : Nat) : List Byte := [u8 (n / 256), u8 n]

/-- Four bytes, most significant first. -/
def be32 (n : Nat) : List Byte := [u8 (n / 16777216), u8 (n / 65536), u8 (n / 256), u8 n]

/-- A signed number in one byte, two's complement. -/
def s8 (x : Int) : Byte := BitVec.ofInt 8 x

/-- A signed number in two bytes, two's complement. -/
def sbe16 (x : Int) : List Byte := be16 (x % 65536).toNat

/-- A signed number in four bytes, two's complement. -/
def sbe32 (x : Int) : List Byte := be32 (x % 4294967296).toNat

/-- The unsigned number that two bytes carry. -/
def of16 (hi lo : Byte) : Nat := hi.toNat * 256 + lo.toNat

/-- The signed number that four bytes carry in two's complement. -/
def ofS32 (b3 b2 b1 b0 : Byte) : Int :=
  let n := (b3.toNat * 256 + b2.toNat) * 65536 + (b1.toNat * 256 + b0.toNat)
  if n < 2147483648 then (n : Int) else (n : Int) - 4294967296

/-- A flag as a byte 0 or 1. -/
def boolByte (b : Bool) : Byte := if b then 1 else 0

/-- A set of flags, bit 0 first. -/
def flagSet : List Bool → Nat
  | [] => 0
  | b :: bs => (if b then 1 else 0) + 2 * flagSet bs

/-! ## The CRC (R40) -/

/-- The register takes one data bit: it shifts left, and the low terms 0x1021 are added without carry when the
bit shifted out differs from the data bit. -/
def crcBit (reg : BitVec 16) (bit : Bool) : BitVec 16 :=
  if reg.msb != bit then (reg <<< 1) ^^^ 0x1021#16 else reg <<< 1

/-- The register takes one byte, most significant bit first. -/
def crcByte (reg : BitVec 16) (b : Byte) : BitVec 16 :=
  [7, 6, 5, 4, 3, 2, 1, 0].foldl (fun r i => crcBit r (b.getLsbD i)) reg

/-- The CRC of a byte sequence: preset to all ones, no inversion at the end. -/
def crc16 (bs : List Byte) : Nat := (bs.foldl crcByte 0xFFFF#16).toNat

/-! ## The end-around check byte (R124) -/

/-- Addition in eight bits; a carry out of the eighth bit adds 1. -/
def endAroundAdd (a b : Byte) : Byte :=
  if a.toNat + b.toNat < 256 then u8 (a.toNat + b.toNat) else u8 (a.toNat + b.toNat - 255)

/-- The end-around sum of some bytes. -/
def endAroundSum (bs : List Byte) : Byte := bs.foldl endAroundAdd 0

/-- The check byte a sender forms over the length bytes and the body. -/
def checkByte (bs : List Byte) : Byte := 0xFF#8 - endAroundSum bs

/-- The check passes when the sum with the check byte is 0xFF. -/
def checkPasses (bs : List Byte) (check : Byte) : Bool := endAroundSum (bs ++ [check]) == 0xFF#8

end Sys2Proof.Machine
end

