-- ==== Sys2Proof/Machine/Layouts.lean ====
section
/-! DEFINITION. How every frame and record of the part looks on its port (chapter *Frame and Record Layouts*,
R165, R176, R177): the bytes of each value the state holds as waiting or in transmission. -/

namespace Sys2Proof.Machine

/-! ## Enumerated values (section 12.3) -/

def Status.code : Status → Nat
  | .ok => 0 | .unknown => 1 | .frame => 2 | .length => 3 | .argument => 4 | .notFound => 5
  | .duplicate => 6 | .tableFull => 7 | .poolEmpty => 8 | .lineLimit => 9 | .state => 10
  | .locked => 11 | .onAir => 12 | .busy => 13 | .gone => 14

def channelCode : ChannelId → Nat
  | .a => 0 | .b => 1

/-- A head's attachment: NONE is 2. -/
def attachmentCode : Option ChannelId → Nat
  | some c => channelCode c
  | none => 2

def ChannelState.code : ChannelState → Nat
  | .unloaded => 0 | .parked => 1 | .live => 2

def AirState.code : AirState → Nat
  | .standby => 0 | .aired => 1 | .doomed => 2

def Lock.code : Lock → Nat
  | .none => 0 | .editor => 1 | .final => 2

def KillOutcome.code : KillOutcome → Nat
  | .retired => 0 | .deferred => 1

def Role.code : Role → Nat
  | .off => 0 | .presenter => 1 | .operator => 2

def StationState.code : StationState → Nat
  | .off => 0 | .silent => 1 | .active => 2

def Tally.code : Tally → Nat
  | .owner => 0 | .waiting => 1 | .lockedOut => 2 | .free => 3 | .overridden => 4

def AnswerStatus.code : AnswerStatus → Nat
  | .accepted => 0 | .checkError => 1 | .rejected => 2

def Curve.code : Curve → Nat
  | .linear => 0 | .square => 1

def CueAction.code : CueAction → Nat
  | .pulse => 0 | .toggle => 1 | .high => 2 | .low => 3

def Level.code : Level → Nat
  | .low => 0 | .high => 1

def ClockState.code : ClockState → Nat
  | .stopped => 0 | .counting => 1

def LineKind.code : LineKind → Nat
  | .read => 0 | .direction => 1

def HeightClass.code : HeightClass → Nat
  | .small => 0 | .standard => 1 | .large => 2 | .spacer => 3

/-! ## Records -/

/-- P on the wire: 0xFFFF is UNSET (R176). -/
def pCode : Option Nat → Nat
  | none => 0xFFFF
  | some p => p

/-- A text: a length byte, then the characters (R176). -/
def textBytes (t : List Byte) : List Byte := u8 t.length :: t

/-- The attribute byte of a line (R177), with the given fired bit. -/
def lineAttr (l : Line) (fired : Bool) : Byte :=
  u8 (l.kind.code * 128 + l.cls.code * 32 + (if fired then 8 else 0) + l.cue.val)

/-- A line or slug record (R177): 0xFF is the slug marker. -/
def Rec.bytes : Rec → List Byte
  | .slug t => 0xFF :: textBytes t
  | .line l => lineAttr l l.fired :: textBytes l.text

def recsBytes (rs : List Rec) : List Byte := rs.flatMap Rec.bytes

def ReadPoint.bytes (rp : ReadPoint) : List Byte := be16 rp.story ++ [u8 rp.k, u8 rp.o, u8 rp.frac]

def Tuning.bytes (t : Tuning) : List Byte :=
  be16 t.vmax ++ be16 t.vrev ++ [u8 t.dz, u8 t.curve.code, u8 t.rampUp, u8 t.rampDown, u8 t.jogStep, u8 t.guard]

def Heights.bytes (h : Heights) : List Byte :=
  [u8 h.small, u8 h.standard, u8 h.large, u8 h.spacer, u8 h.slugBand]

/-- The button byte of section 12.4. -/
def Buttons.byte (b : Buttons) : Byte := u8 (flagSet [b.pause, b.mark, b.next, b.prev, b.take, b.release])

/-- A presence byte of 0 for an absent record, 1 followed by the fields for a present one (section 12.6). -/
def optBytes {α : Type} (f : α → List Byte) : Option α → List Byte
  | none => [0]
  | some x => 1 :: f x

/-- The STORY INFO payload (section 12.6). -/
def StoryReport.bytes (r : StoryReport) : List Byte :=
  be16 r.id ++ [u8 r.air.code, u8 (flagSet [r.floated, r.autoRetire, r.checking]), u8 r.lock.code,
    u8 (flagSet [r.openA, r.openB])] ++ be16 (pCode r.p) ++ [u8 r.n] ++ be16 r.g
    ++ [u8 r.generation, u8 r.position] ++ textBytes r.slug

/-- One ORDER LIST entry (section 12.6). -/
def OrderEntry.bytes (e : OrderEntry) : List Byte := be16 e.id ++ [u8 e.air.code, boolByte e.floated]

/-- The CHANNEL STATUS payload (R50, section 12.6). -/
def ChannelReport.bytes (r : ChannelReport) : List Byte :=
  [u8 r.state.code] ++ optBytes (fun x => x.1.bytes ++ [u8 x.2]) r.readPoint ++ sbe16 r.speed ++ sbe16 r.target
    ++ r.tuning.bytes ++ [u8 (flagSet [r.paused, r.endFlag, r.startFlag])]
    ++ [u8 (flagSet [r.storyChanged, r.ownerChanged, r.endReached, r.marked])]
    ++ optBytes (fun m => be16 m.story ++ [u8 m.k] ++ sbe32 m.tOff) r.mark
    ++ optBytes (fun x => [u8 x.1.val, u8 x.2.code]) r.owner
    ++ optBytes (fun x => [u8 x.1.val, u8 x.2]) r.cueRecord

/-- The STATION STATUS payload (R133, R176, section 12.6) in the order of the catalogue of R171, "station record, tally,
settings": the four error flags stand in the record of section 8.1 and so before the tally. R133 lists the same values
with the flags after the tally, and gives no order of bytes. DEDUCED (unsafe), notes/assumptions/18.md. -/
def StationReport.bytes (r : StationReport) : List Byte :=
  [u8 r.role.code, u8 (channelCode r.channel), u8 r.rank, u8 r.state.code]
    ++ optBytes (fun l => [s8 l.d, s8 l.j, l.buttons.byte]) r.lastLevels
    ++ [u8 (flagSet [r.checkFlag, r.framingFlag, r.fieldFlag, r.lapseFlag]), u8 r.tally.code]
    ++ be16 r.lapseTime ++ be16 r.handOff

/-- The HEAD STATUS payload (R152). The manual lists the values and gives no width for the two queue counts, which are
sent as one byte each, and no bytes for the three yes/no values, which are sent as one set of flags in the order R152
lists them. DESIGN CHOICE (unsafe) for both, notes/assumptions/11.md. -/
def HeadReport.bytes (r : HeadReport) : List Byte :=
  [u8 (attachmentCode r.attachment), u8 r.requests, u8 r.answers,
    u8 (flagSet [r.posWaits, r.geomPending, r.overrun])]

/-- The TIMING READ payload (R109). -/
def TimingReport.bytes (r : TimingReport) : List Byte :=
  sbe32 r.tOff ++ [u8 r.clock.code] ++ sbe32 r.pt ++ [u8 (channelCode r.lead)] ++ be16 r.story ++ sbe16 r.rem
    ++ sbe32 r.showRem ++ sbe16 r.float ++ [u8 r.untimed, boolByte r.offAirPassed]

/-- The pending indications of DEVICE STATUS: bit 0 channel A, bit 1 channel B, bit 2 cue record, bits 3 to 6
stations, bits 7 to 10 heads, bit 11 OFF-AIR PASSED (section 12.6). -/
def Sources.bits (p : Sources) : Nat :=
  flagSet ([p.channelA, p.channelB, p.cue] ++ p.stations.toList ++ p.heads.toList ++ [p.offAir])

/-- The payload bytes of a response (R176: the fields of the catalogue of R171, in the order listed). -/
def Payload.bytes : Payload → List Byte
  | .empty => []
  | .liveCount n => [u8 n]
  | .floated b => [boolByte b]
  | .kill o => [u8 o.code]
  | .props p sub gen => be16 (pCode p) ++ [u8 sub, u8 gen]
  | .lock l => [u8 l.code]
  | .splice n g gen sub => [u8 n] ++ be16 g ++ [u8 gen, u8 sub]
  | .lines id gen n first recs => be16 id ++ [u8 gen, u8 n, u8 first, u8 recs.length] ++ recsBytes recs
  | .info r => r.bytes
  | .check crc n gen => be16 crc ++ [u8 n, u8 gen]
  | .order more es => [u8 es.length, boolByte more] ++ es.flatMap OrderEntry.bytes
  | .storyCount n => [u8 n]
  | .rearmed n => [u8 n]
  | .loaded rp k gen => rp.bytes ++ [u8 k, u8 gen]
  | .channelState c => [u8 c.code]
  | .readPoint rp => rp.bytes
  | .tuning t => t.bytes
  | .channel r => r.bytes
  | .stationSet role ch rank st lapse hand =>
      [u8 role.code, u8 (channelCode ch), u8 rank, u8 st.code] ++ be16 lapse ++ be16 hand
  | .station r => r.bytes
  | .attachment a => [u8 (attachmentCode a)]
  | .head r => r.bytes
  | .tOff t => sbe32 t
  | .clock t c => sbe32 t ++ [u8 c.code]
  | .timing r => r.bytes
  | .heights h => h.bytes
  | .lead c => [u8 (channelCode c)]
  | .cueOutput a w l => [u8 a.code, u8 w, u8 l.code]
  | .device p ld fr lv => be16 p.bits ++ [u8 (channelCode ld)] ++ be16 fr ++ [u8 lv]
  | .identity v p r => be16 v ++ [u8 p, u8 r]

/-! ## Frames on the ports -/

/-- The body of a response: status, echoed code, payload (R165). -/
def Response.body (r : Response) : List Byte := [u8 r.status.code, r.echo] ++ r.payload.bytes

/-- A response frame on GW_TX: start marker, two length bytes, body, CRC over length and body (R165). -/
def Response.wire (r : Response) : List Byte :=
  let covered := be16 r.body.length ++ r.body
  [0x7E] ++ covered ++ be16 (crc16 covered)

/-- A command frame on GW_RX: start marker, one length byte, code and arguments, CRC (section 11.1, R164). -/
def gatewayFrame (code : Byte) (args : List Byte) : List Byte :=
  let covered := u8 (args.length + 1) :: code :: args
  [0x7E] ++ covered ++ be16 (crc16 covered)

/-- An ANSWER frame on a station port (section 12.4). -/
def Answer.wire (a : Answer) : List Byte :=
  let covered := [4, u8 a.status.code, u8 a.tally.code, u8 a.speedBar, u8 (flagSet [a.paused])]
  [0xA5] ++ covered ++ [checkByte covered]

/-- A frame of a station or head port with the given body, as a hand control or a head sends it. -/
def portFrame (body : List Byte) : List Byte :=
  let covered := u8 body.length :: body
  [0xA5] ++ covered ++ [checkByte covered]

/-- The REPORT body (section 12.4). -/
def reportBody (d j : Int) (b : Buttons) : List Byte := [s8 d, s8 j, b.byte]

/-- The FETCH body (section 12.5). -/
def fetchBody (story : Nat) (generation : Option Nat) (first count : Nat) : List Byte :=
  be16 story ++ [boolByte generation.isSome, u8 (generation.getD 0), u8 first, u8 count]

def PosFrame.bytes (f : PosFrame) : List Byte :=
  [u8 (channelCode f.channel), u8 f.state.code] ++ be16 f.story ++ [u8 f.generation, u8 f.k, u8 f.o, u8 f.frac]
    ++ sbe16 f.speed ++ [u8 (flagSet [f.endFlag, f.startFlag, f.paused]), u8 f.ownerRole.code]
    ++ sbe16 f.float ++ sbe32 f.tOff

/-- The body of a head frame, its type byte first (section 12.5). -/
def HeadFrame.body : HeadFrame → List Byte
  | .position f => 0x01 :: f.bytes
  | .geometry h => 0x02 :: h.bytes
  | .answer (.lines id first gen n recs) =>
      0x10 :: (be16 id ++ [u8 first, u8 gen, u8 n, u8 recs.length] ++ recsBytes recs)
  | .answer (.stale id first gen) => 0x11 :: (be16 id ++ [u8 first, u8 gen])
  | .answer (.gone id first) => 0x12 :: (be16 id ++ [u8 first])
  | .answer (.range id first gen n) => 0x13 :: (be16 id ++ [u8 first, u8 gen, u8 n])
  | .answer (.busy id first) => 0x14 :: (be16 id ++ [u8 first])

/-- A head frame on a head port: start marker, two length bytes, body, check byte. -/
def HeadFrame.wire (f : HeadFrame) : List Byte :=
  let covered := be16 f.body.length ++ f.body
  [0xA5] ++ covered ++ [checkByte covered]

end Sys2Proof.Machine
end

