-- ==== Sys2Proof/Machine/Operands.lean ====
section
/-! DEFINITION. The operands of the gateway commands: the catalogue of R171, the length test of R167 and the
decoding of R176, with the encoder written from the same tables. Values are taken as received; the command's
own rule clamps or refuses them. Also the decoding of a new line (R177), of a REPORT (R125) and of a FETCH
(R156). -/

namespace Sys2Proof.Machine

/-- A new line of STORY SPLICE as received: its attribute byte and its text. -/
structure RawLine where
  attr : Byte
  text : List Byte
deriving DecidableEq, Repr

/-- The optional fields of CHANNEL TUNE. -/
structure TuneFields where
  vmax     : Option Nat
  vrev     : Option Nat
  dz       : Option Nat
  curve    : Option Nat
  rampUp   : Option Nat
  rampDown : Option Nat
  jogStep  : Option Nat
  guard    : Option Nat
deriving DecidableEq, Repr

/-- The optional fields of STATION SET. -/
structure StationFields where
  role      : Option Nat
  channel   : Option Nat
  rank      : Option Nat
  lapseTime : Option Nat
  handOff   : Option Nat
deriving DecidableEq, Repr

/-- A command of the catalogue with its arguments as received (R171). -/
inductive Command where
  | storyNew (id anchor : Nat)
  | storyMove (id anchor : Nat)
  | storyFloat (id : Nat)
  | storyRestore (id : Nat)
  | storyKill (id : Nat)
  | storyProps (id : Nat) (slug : Option (List Byte)) (p autoRetire : Option Nat)
  | storyLock (id level : Nat)
  | storyUnlock (id : Nat)
  | storySplice (id k m : Nat) (new : List RawLine)
  | storyRead (id first count : Nat)
  | storyInfo (id : Nat)
  | storyCheck (id : Nat)
  | orderList (after count : Nat)
  | rundownClear
  | cuesRearm (id : Nat)
  | channelLoad (channel id k : Nat)
  | channelRun (channel : Nat)
  | channelPark (channel : Nat)
  | channelUnload (channel : Nat)
  | channelTune (channel : Nat) (f : TuneFields)
  | channelStatus (channel : Nat)
  | stationSet (station : Nat) (f : StationFields)
  | stationStatus (station : Nat)
  | headSet (head channel : Nat)
  | headStatus (head : Nat)
  | clockSet (v : Int)
  | clockHold
  | clockResume
  | timingRead
  | geometrySet (h : Heights)
  | leadSet (channel : Nat)
  | cueOutputSet (output action : Nat) (width level : Option Nat)
  | deviceStatus
  | identify
deriving DecidableEq, Repr

/-! ## Reading fields -/

/-- Reads a one-byte number. -/
def read8 : List Byte → Option (Nat × List Byte)
  | b :: r => some (b.toNat, r)
  | [] => none

/-- Reads a two-byte number. -/
def read16 : List Byte → Option (Nat × List Byte)
  | hi :: lo :: r => some (of16 hi lo, r)
  | _ => none

/-- Reads a text: a length byte, then that many characters. -/
def readText : List Byte → Option (List Byte × List Byte)
  | len :: r => if r.length < len.toNat then none else some (r.take len.toNat, r.drop len.toNat)
  | [] => none

/-- Reads an optional field: present, it is read; absent, nothing is taken (R167). -/
def readOpt {α : Type} (present : Bool) (read : List Byte → Option (α × List Byte)) (bs : List Byte) :
    Option (Option α × List Byte) :=
  if present then
    match read bs with
    | some (x, r) => some (some x, r)
    | none => none
  else some (none, bs)

/-- Reads one new line: an attribute byte, then a text (R177). -/
def readLine : List Byte → Option (RawLine × List Byte)
  | attr :: r =>
    match readText r with
    | some (t, r') => some (⟨attr, t⟩, r')
    | none => none
  | [] => none

/-- Reads the given number of new lines. -/
def readLines : Nat → List Byte → Option (List RawLine × List Byte)
  | 0, r => some ([], r)
  | n + 1, r =>
    match readLine r with
    | some (l, r') =>
      match readLines n r' with
      | some (ls, r'') => some (l :: ls, r'')
      | none => none
    | none => none

/-- The value read, when nothing is left over: a frame longer than its form needs fails the length test. -/
def whole {α : Type} : Option (α × List Byte) → Option α
  | some (x, []) => some x
  | _ => none

/-- Bit `i` of a presence byte. -/
def present (mask : Byte) (i : Nat) : Bool := mask.getLsbD i

/-! ## The forms of R167 -/

/-- STORY PROPS: story ID, presence byte, then slug, P, auto-retire as present. -/
def readProps : List Byte → Option Command
  | i1 :: i0 :: mask :: r =>
    if mask.toNat < 8 then do
      let (slug, r) ← readOpt (present mask 0) readText r
      let (p, r) ← readOpt (present mask 1) read16 r
      let (auto, r) ← readOpt (present mask 2) read8 r
      whole (some (Command.storyProps (of16 i1 i0) slug p auto, r))
    else none
  | _ => none

/-- CHANNEL TUNE: channel, presence byte, then the eight tuning fields as present. -/
def readTune : List Byte → Option Command
  | ch :: mask :: r => do
    let (vmax, r) ← readOpt (present mask 0) read16 r
    let (vrev, r) ← readOpt (present mask 1) read16 r
    let (dz, r) ← readOpt (present mask 2) read8 r
    let (curve, r) ← readOpt (present mask 3) read8 r
    let (rampUp, r) ← readOpt (present mask 4) read8 r
    let (rampDown, r) ← readOpt (present mask 5) read8 r
    let (jogStep, r) ← readOpt (present mask 6) read8 r
    let (guard, r) ← readOpt (present mask 7) read8 r
    whole (some (Command.channelTune ch.toNat ⟨vmax, vrev, dz, curve, rampUp, rampDown, jogStep, guard⟩, r))
  | _ => none

/-- STATION SET: station, presence byte, then role, channel, rank, lapse time, hand-off interval as present. -/
def readStationSet : List Byte → Option Command
  | st :: mask :: r =>
    if mask.toNat < 32 then do
      let (role, r) ← readOpt (present mask 0) read8 r
      let (channel, r) ← readOpt (present mask 1) read8 r
      let (rank, r) ← readOpt (present mask 2) read8 r
      let (lapse, r) ← readOpt (present mask 3) read16 r
      let (hand, r) ← readOpt (present mask 4) read16 r
      whole (some (Command.stationSet st.toNat ⟨role, channel, rank, lapse, hand⟩, r))
    else none
  | _ => none

/-- CUE OUTPUT SET: output, action, presence byte, then width, level as present. -/
def readCueOutputSet : List Byte → Option Command
  | out :: action :: mask :: r =>
    if mask.toNat < 4 then do
      let (width, r) ← readOpt (present mask 0) read8 r
      let (level, r) ← readOpt (present mask 1) read8 r
      whole (some (Command.cueOutputSet out.toNat action.toNat width level, r))
    else none
  | _ => none

/-- STORY SPLICE: story ID, k, m, the count of new lines, then the new lines. -/
def readSplice : List Byte → Option Command
  | i1 :: i0 :: k :: m :: c :: r =>
    match readLines c.toNat r with
    | some (ls, []) => some (.storySplice (of16 i1 i0) k.toNat m.toNat ls)
    | _ => none
  | _ => none

/-- A command without arguments. -/
def readNone (c : Command) : List Byte → Option Command
  | [] => some c
  | _ => none

/-- A command whose one argument is a story ID. -/
def readId (f : Nat → Command) : List Byte → Option Command
  | [i1, i0] => some (f (of16 i1 i0))
  | _ => none

/-- A command whose arguments are two story IDs. -/
def readIdId (f : Nat → Nat → Command) : List Byte → Option Command
  | [a1, a0, b1, b0] => some (f (of16 a1 a0) (of16 b1 b0))
  | _ => none

/-- A command whose arguments are a story ID and one byte. -/
def readIdByte (f : Nat → Nat → Command) : List Byte → Option Command
  | [i1, i0, b] => some (f (of16 i1 i0) b.toNat)
  | _ => none

/-- A command whose one argument is one byte. -/
def readByte (f : Nat → Command) : List Byte → Option Command
  | [b] => some (f b.toNat)
  | _ => none

/-- STORY READ: story ID, first, count. -/
def readStoryRead : List Byte → Option Command
  | [i1, i0, first, count] => some (.storyRead (of16 i1 i0) first.toNat count.toNat)
  | _ => none

/-- CHANNEL LOAD: channel, story ID, k. -/
def readChannelLoad : List Byte → Option Command
  | [ch, i1, i0, k] => some (.channelLoad ch.toNat (of16 i1 i0) k.toNat)
  | _ => none

/-- HEAD SET: head, channel. -/
def readHeadSet : List Byte → Option Command
  | [h, ch] => some (.headSet h.toNat ch.toNat)
  | _ => none

/-- CLOCK SET: a signed four-byte v. -/
def readClockSet : List Byte → Option Command
  | [b3, b2, b1, b0] => some (.clockSet (ofS32 b3 b2 b1 b0))
  | _ => none

/-- GEOMETRY SET: the five heights. -/
def readGeometrySet : List Byte → Option Command
  | [a, b, c, d, e] => some (.geometrySet ⟨a.toNat, b.toNat, c.toNat, d.toNat, e.toNat⟩)
  | _ => none

/-- The argument form of each code of the catalogue (R171), `none` for a code that is not in it. -/
def catalogue (code : Byte) : Option (List Byte → Option Command) :=
  match code.toNat with
  | 0x10 => some (readIdId .storyNew)
  | 0x11 => some (readIdId .storyMove)
  | 0x12 => some (readId .storyFloat)
  | 0x13 => some (readId .storyRestore)
  | 0x14 => some (readId .storyKill)
  | 0x15 => some readProps
  | 0x16 => some (readIdByte .storyLock)
  | 0x17 => some (readId .storyUnlock)
  | 0x18 => some readSplice
  | 0x19 => some readStoryRead
  | 0x1A => some (readId .storyInfo)
  | 0x1B => some (readId .storyCheck)
  | 0x20 => some (readIdByte .orderList)
  | 0x21 => some (readNone .rundownClear)
  | 0x22 => some (readId .cuesRearm)
  | 0x30 => some readChannelLoad
  | 0x31 => some (readByte .channelRun)
  | 0x32 => some (readByte .channelPark)
  | 0x33 => some (readByte .channelUnload)
  | 0x34 => some readTune
  | 0x35 => some (readByte .channelStatus)
  | 0x40 => some readStationSet
  | 0x41 => some (readByte .stationStatus)
  | 0x48 => some readHeadSet
  | 0x49 => some (readByte .headStatus)
  | 0x50 => some readClockSet
  | 0x51 => some (readNone .clockHold)
  | 0x52 => some (readNone .clockResume)
  | 0x53 => some (readNone .timingRead)
  | 0x60 => some readGeometrySet
  | 0x61 => some (readByte .leadSet)
  | 0x62 => some readCueOutputSet
  | 0x63 => some (readNone .deviceStatus)
  | 0x64 => some (readNone .identify)
  | _ => none

/-! ## The encoder -/

/-- An optional field as sent: nothing when absent. -/
def sendOpt {α : Type} (f : α → List Byte) : Option α → List Byte
  | some x => f x
  | none => []

/-- The presence byte of some optional fields. -/
def presenceByte (fields : List Bool) : Byte := u8 (flagSet fields)

/-- One byte as a list. -/
def byte1 (n : Nat) : List Byte := [u8 n]

/-- A new line as sent. -/
def RawLine.bytes (l : RawLine) : List Byte := l.attr :: textBytes l.text

/-- The command code (R171). -/
def Command.code : Command → Byte
  | .storyNew _ _ => 0x10
  | .storyMove _ _ => 0x11
  | .storyFloat _ => 0x12
  | .storyRestore _ => 0x13
  | .storyKill _ => 0x14
  | .storyProps _ _ _ _ => 0x15
  | .storyLock _ _ => 0x16
  | .storyUnlock _ => 0x17
  | .storySplice _ _ _ _ => 0x18
  | .storyRead _ _ _ => 0x19
  | .storyInfo _ => 0x1A
  | .storyCheck _ => 0x1B
  | .orderList _ _ => 0x20
  | .rundownClear => 0x21
  | .cuesRearm _ => 0x22
  | .channelLoad _ _ _ => 0x30
  | .channelRun _ => 0x31
  | .channelPark _ => 0x32
  | .channelUnload _ => 0x33
  | .channelTune _ _ => 0x34
  | .channelStatus _ => 0x35
  | .stationSet _ _ => 0x40
  | .stationStatus _ => 0x41
  | .headSet _ _ => 0x48
  | .headStatus _ => 0x49
  | .clockSet _ => 0x50
  | .clockHold => 0x51
  | .clockResume => 0x52
  | .timingRead => 0x53
  | .geometrySet _ => 0x60
  | .leadSet _ => 0x61
  | .cueOutputSet _ _ _ _ => 0x62
  | .deviceStatus => 0x63
  | .identify => 0x64

/-- The argument bytes of a command as the newsroom computer sends them (R167, R176). -/
def Command.args : Command → List Byte
  | .storyNew id anchor => be16 id ++ be16 anchor
  | .storyMove id anchor => be16 id ++ be16 anchor
  | .storyFloat id => be16 id
  | .storyRestore id => be16 id
  | .storyKill id => be16 id
  | .storyProps id slug p auto =>
      be16 id ++ [presenceByte [slug.isSome, p.isSome, auto.isSome]]
        ++ sendOpt textBytes slug ++ sendOpt be16 p ++ sendOpt byte1 auto
  | .storyLock id level => be16 id ++ [u8 level]
  | .storyUnlock id => be16 id
  | .storySplice id k m new => be16 id ++ [u8 k, u8 m, u8 new.length] ++ new.flatMap RawLine.bytes
  | .storyRead id first count => be16 id ++ [u8 first, u8 count]
  | .storyInfo id => be16 id
  | .storyCheck id => be16 id
  | .orderList after count => be16 after ++ [u8 count]
  | .rundownClear => []
  | .cuesRearm id => be16 id
  | .channelLoad ch id k => [u8 ch] ++ be16 id ++ [u8 k]
  | .channelRun ch => [u8 ch]
  | .channelPark ch => [u8 ch]
  | .channelUnload ch => [u8 ch]
  | .channelTune ch f =>
      [u8 ch, presenceByte [f.vmax.isSome, f.vrev.isSome, f.dz.isSome, f.curve.isSome, f.rampUp.isSome,
        f.rampDown.isSome, f.jogStep.isSome, f.guard.isSome]]
        ++ sendOpt be16 f.vmax ++ sendOpt be16 f.vrev ++ sendOpt byte1 f.dz ++ sendOpt byte1 f.curve
        ++ sendOpt byte1 f.rampUp ++ sendOpt byte1 f.rampDown ++ sendOpt byte1 f.jogStep
        ++ sendOpt byte1 f.guard
  | .channelStatus ch => [u8 ch]
  | .stationSet st f =>
      [u8 st, presenceByte [f.role.isSome, f.channel.isSome, f.rank.isSome, f.lapseTime.isSome,
        f.handOff.isSome]]
        ++ sendOpt byte1 f.role ++ sendOpt byte1 f.channel ++ sendOpt byte1 f.rank
        ++ sendOpt be16 f.lapseTime ++ sendOpt be16 f.handOff
  | .stationStatus st => [u8 st]
  | .headSet h ch => [u8 h, u8 ch]
  | .headStatus h => [u8 h]
  | .clockSet v => sbe32 v
  | .clockHold => []
  | .clockResume => []
  | .timingRead => []
  | .geometrySet h => h.bytes
  | .leadSet ch => [u8 ch]
  | .cueOutputSet out action width level =>
      [u8 out, u8 action, presenceByte [width.isSome, level.isSome]] ++ sendOpt byte1 width ++ sendOpt byte1 level
  | .deviceStatus => []
  | .identify => []

/-! ## Values of the enumerated arguments (section 12.3) -/

/-- A channel argument: A or B, and nothing else. -/
def toChannel (n : Nat) : Option ChannelId :=
  match n with
  | 0 => some .a
  | 1 => some .b
  | _ => none

/-- The channel argument of HEAD SET: A, B or NONE. -/
def toAttachment (n : Nat) : Option (Option ChannelId) :=
  match n with
  | 0 => some (some .a)
  | 1 => some (some .b)
  | 2 => some none
  | _ => none

/-- A station or head number, 0..3. -/
def toPort (n : Nat) : Option (Fin 4) := if h : n < 4 then some ⟨n, h⟩ else none

/-- A cue output number, 1..4. -/
def toOutput (n : Nat) : Option (Fin 4) := if h : 1 ≤ n ∧ n ≤ 4 then some ⟨n - 1, by omega⟩ else none

def toRole (n : Nat) : Option Role :=
  match n with
  | 0 => some .off
  | 1 => some .presenter
  | 2 => some .operator
  | _ => none

def toCurve (n : Nat) : Option Curve :=
  match n with
  | 0 => some .linear
  | 1 => some .square
  | _ => none

def toAction (n : Nat) : Option CueAction :=
  match n with
  | 0 => some .pulse
  | 1 => some .toggle
  | 2 => some .high
  | 3 => some .low
  | _ => none

def toLevel (n : Nat) : Option Level :=
  match n with
  | 0 => some .low
  | 1 => some .high
  | _ => none

/-- The lock level of STORY LOCK: EDITOR or FINAL (R13). -/
def toLockLevel (n : Nat) : Option Lock :=
  match n with
  | 1 => some .editor
  | 2 => some .final
  | _ => none

/-- An auto-retire byte (R176): 0 no, 1 yes; any other value is clamped to 1 or refused, `none`, as the free value of
notes/assumptions/5.md says. -/
def toAutoRetire (n : Nat) : Option Bool :=
  match n with
  | 0 => some false
  | 1 => some true
  | _ => if Config.autoRetireClamps n then some true else none

/-- A value clamped to `lo..hi` (section 5.1). -/
def clampNat (lo hi n : Nat) : Nat := max lo (min hi n)

/-- A signed value clamped to `lo..hi` (section 5.1). -/
def clampInt (lo hi x : Int) : Int := max lo (min hi x)

/-! ## New lines (R177, R32 step 2) -/

/-- The height class of bits 6–5 of an attribute byte. -/
def classOf (attr : Byte) : HeightClass :=
  match attr.getLsbD 6, attr.getLsbD 5 with
  | false, false => .small
  | false, true => .standard
  | true, false => .large
  | true, true => .spacer

/-- The cue number of bits 2–0 of an attribute byte, when it is 0..4. -/
def cueOf (attr : Byte) : Option (Fin 5) :=
  if h : attr.toNat % 8 < 5 then some ⟨attr.toNat % 8, h⟩ else none

/-- A received character code as stored (R23). -/
def substitute (b : Byte) : Byte :=
  if (0x20 ≤ b.toNat ∧ b.toNat ≤ 0x7F) ∨ 0xA0 ≤ b.toNat then b else 0x7F

/-- A received character code that is replaced and counted (R23). -/
def isSubstituted (b : Byte) : Bool :=
  decide (b.toNat ≤ 0x1F) || (decide (0x80 ≤ b.toNat) && decide (b.toNat ≤ 0x9F))

/-- A text as stored. -/
def storedText (t : List Byte) : List Byte := t.map substitute

/-- The number of codes of a text that are replaced. -/
def substitutions (t : List Byte) : Nat := t.countP isSubstituted

/-- The line record a new line is written to, with its fired flag clear (R22, R34); `none` when its attribute
byte has bit 4 or bit 3 set or a cue number of 5..7, or its text has more than 40 codes (R32 step 2, R177). -/
def newLine (l : RawLine) : Option Line :=
  if l.attr.getLsbD 4 || l.attr.getLsbD 3 || decide (40 < l.text.length) then none
  else
    match cueOf l.attr with
    | none => none
    | some cue =>
      some { text := storedText l.text
             kind := if l.attr.getLsbD 7 then .direction else .read
             cls := classOf l.attr
             cue := cue
             fired := false }

/-- The line records of all new lines, `none` when one of them is refused. -/
def newLines : List RawLine → Option (List Line)
  | [] => some []
  | l :: ls =>
    match newLine l, newLines ls with
    | some x, some xs => some (x :: xs)
    | _, _ => none

/-! ## REPORT and FETCH bodies (R125, R156) -/

/-- The buttons of a button byte (section 12.4). -/
def toButtons (b : Byte) : Buttons :=
  ⟨b.getLsbD 0, b.getLsbD 1, b.getLsbD 2, b.getLsbD 3, b.getLsbD 4, b.getLsbD 5⟩

/-- The levels of a REPORT body after the clamps of R125; `none` is a field fault: a body that is not three
bytes long, or a button byte with bit 6 or bit 7 set. -/
def toLevels : List Byte → Option Levels
  | [d, j, b] =>
    if b.getLsbD 6 || b.getLsbD 7 then none
    else some ⟨max (-127) d.toInt, clampInt (-63) 63 j.toInt, toButtons b⟩
  | _ => none

/-- The request of a FETCH body (section 12.5): count is clamped to 1..8, the generation is read only when bit 0
of the options byte is set; `none` when the body is not six bytes long. -/
def toRequest : List Byte → Option Request
  | [i1, i0, options, gen, first, count] =>
    some { story := of16 i1 i0
           generation := if options.getLsbD 0 then some gen.toNat else none
           first := first.toNat
           count := clampNat 1 8 count.toNat }
  | _ => none

end Sys2Proof.Machine
end

