-- ==== Sys2Proof/Machine/ChannelCommands.lean ====
section
/-! DEFINITION. The channel commands (R45 to R50). Each is refused ARGUMENT when it names a channel other than A or B,
before every other check. -/

namespace Sys2Proof.Machine

/-- Runs a channel command on the channel it names. -/
def onChannel (n : Nat) (f : ChannelId → State → State × Taken) (s : State) : State × Taken :=
  match toChannel n with
  | none => refuse .argument s
  | some c => f c s

/-- CHANNEL LOAD on a channel (R45): a neutral leave of the current story, the read point at the top of line k, the
entry, S and T 0, END and START clear; an UNLOADED channel becomes PARKED. -/
def loadChannel (id k : Nat) (c : ChannelId) (s : State) : State × Taken :=
  match s.story? id with
  | none => refuse .notFound s
  | some st =>
    if st.readable = false then refuse .state s
    else
      let rp : ReadPoint := ⟨id, min k st.n, 0, 0⟩
      let s1 := match (s.channel c).readPoint with
        | some old => leave c old.story .neutral s
        | none => s
      let s2 := atRest c (enter c id (s1.place c rp))
      let s3 := s2.modChannel c (fun ch => { ch with state := if ch.state = .unloaded then .parked else ch.state })
      okay (.loaded rp rp.k st.generation) s3

/-- CHANNEL LOAD (R45). -/
def cmdChannelLoad (ch id k : Nat) (s : State) : State × Taken := onChannel ch (loadChannel id k) s

/-- CHANNEL RUN on a channel (R46). -/
def runChannel (c : ChannelId) (s : State) : State × Taken :=
  match (s.channel c).state with
  | .unloaded => refuse .state s
  | .live => okay (.channelState .live) s
  | .parked =>
    okay (.channelState .live) (recompute c (s.modChannel c (fun ch => { ch with state := .live, paused := false })))

/-- CHANNEL RUN (R46). -/
def cmdChannelRun (ch : Nat) (s : State) : State × Taken := onChannel ch runChannel s

/-- The payload of CHANNEL PARK: the read point in effect. -/
def readPointPayload (ch : Channel) : Payload :=
  match ch.readPoint with
  | some rp => .readPoint rp
  | none => .empty

/-- CHANNEL PARK on a channel (R47). -/
def parkChannel (c : ChannelId) (s : State) : State × Taken :=
  match (s.channel c).state with
  | .unloaded => refuse .state s
  | .parked => okay (readPointPayload (s.channel c)) s
  | .live =>
    okay (readPointPayload (s.channel c))
      (s.modChannel c (fun ch => { ch with state := .parked, speed := 0, target := 0 }))

/-- CHANNEL PARK (R47). -/
def cmdChannelPark (ch : Nat) (s : State) : State × Taken := onChannel ch parkChannel s

/-- CHANNEL UNLOAD (R48). -/
def cmdChannelUnload (ch : Nat) (s : State) : State × Taken := onChannel ch (fun c s => okay .empty (unload c s)) s

/-- The tuning after a CHANNEL TUNE (R49): each present number clamped to its range, absent fields kept. -/
def Tuning.tuned (t : Tuning) (f : TuneFields) (curve : Curve) : Tuning :=
  { vmax := (f.vmax.map (clampNat 16 1023)).getD t.vmax
    vrev := (f.vrev.map (clampNat 16 1023)).getD t.vrev
    dz := (f.dz.map (clampNat 0 31)).getD t.dz
    curve := curve
    rampUp := (f.rampUp.map (clampNat 1 64)).getD t.rampUp
    rampDown := (f.rampDown.map (clampNat 1 64)).getD t.rampDown
    jogStep := (f.jogStep.map (clampNat 1 64)).getD t.jogStep
    guard := (f.guard.map (clampNat 0 15)).getD t.guard }

/-- S limited at once to new limits (R49). -/
def limitSpeed (t : Tuning) (speed : Int) : Int :=
  if (t.vmax : Int) < speed then t.vmax else if (t.vrev : Int) < -speed then -(t.vrev : Int) else speed

/-- The curve in effect after a CHANNEL TUNE, `none` when a present curve is neither LINEAR nor SQUARE. -/
def tunedCurve (t : Tuning) (f : TuneFields) : Option Curve :=
  match f.curve with
  | none => some t.curve
  | some n => toCurve n

/-- CHANNEL TUNE names no field. -/
def TuneFields.noField (f : TuneFields) : Bool :=
  f.vmax.isNone && f.vrev.isNone && f.dz.isNone && f.curve.isNone && f.rampUp.isNone && f.rampDown.isNone
    && f.jogStep.isNone && f.guard.isNone

/-- CHANNEL TUNE on a channel (R49): the write, the limit on S, the recompute of T. -/
def tuneChannel (f : TuneFields) (c : ChannelId) (s : State) : State × Taken :=
  if f.noField then refuse .argument s
  else
    match tunedCurve (s.channel c).tuning f with
    | none => refuse .argument s
    | some curve =>
      let t := (s.channel c).tuning.tuned f curve
      okay (.tuning t)
        (recompute c (s.modChannel c (fun ch => { ch with tuning := t, speed := limitSpeed t ch.speed })))

/-- CHANNEL TUNE (R49). -/
def cmdChannelTune (ch : Nat) (f : TuneFields) (s : State) : State × Taken := onChannel ch (tuneChannel f) s

/-- The channel record as CHANNEL STATUS reports it (R50). -/
def State.channelReport (s : State) (c : ChannelId) : ChannelReport :=
  let ch := s.channel c
  { state := ch.state
    readPoint := ch.readPoint.map (fun rp => (rp, ((s.story? rp.story).map Story.generation).getD 0))
    speed := ch.speed
    target := ch.target
    tuning := ch.tuning
    paused := ch.paused
    endFlag := ch.endFlag
    startFlag := ch.startFlag
    storyChanged := ch.storyChanged
    ownerChanged := ch.ownerChanged
    endReached := ch.endReached
    marked := ch.marked
    mark := ch.mark
    owner := (s.arbiter c).owner.map (fun p => (p, (s.station p).role))
    cueRecord := if s.cues.lead = c then some (s.cues.lastCue, s.cues.count) else none }

/-- CHANNEL STATUS on a channel (R50): after the response is formed the four status flags are cleared, the mark
record becomes absent, and the cue record's count becomes 0 when the channel is the lead (R117). -/
def statusChannel (c : ChannelId) (s : State) : State × Taken :=
  let s1 := s.modChannel c (fun ch =>
    { ch with
      storyChanged := false
      ownerChanged := false
      endReached := false
      marked := false
      mark := none })
  let s2 : State := if s.cues.lead = c then { s1 with cues := { s1.cues with count := 0 } } else s1
  okay (.channel (s.channelReport c)) s2

/-- CHANNEL STATUS (R50). -/
def cmdChannelStatus (ch : Nat) (s : State) : State × Taken := onChannel ch statusChannel s

end Sys2Proof.Machine
end

