-- ==== Sys2Proof/Machine/Timing.lean ====
section
/-! DEFINITION. The timing computation (R103 to R108): it reads the state and changes nothing. -/

namespace Sys2Proof.Machine

/-- The result of one timing run. -/
structure TimingRun where
  story   : Nat
  rem     : Nat
  ahead   : Nat
  untimed : Nat
  showRem : Nat
  float   : Int
deriving DecidableEq, Repr

/-- A story that Ahead sums over: STANDBY, not FLOATED, not DOOMED (R105). -/
def Story.planned (st : Story) : Bool := st.air == .standby && !st.floated

/-- The sum of P over the planned stories of a list, UNSET as 0. -/
def plannedSeconds (sts : List Story) : Nat := ((sts.filter Story.planned).map Story.seconds).sum

/-- The number of planned stories of a list with P UNSET. -/
def plannedUntimed (sts : List Story) : Nat := ((sts.filter Story.planned).filter (fun st => st.p == none)).length

/-- The stories after a story in the running order. -/
def State.storiesAfter (s : State) (id : Nat) : List Story := (s.stories.dropWhile (fun st => st.id != id)).drop 1

/-- Rem (R104): floor (P × (G − r) / G), the fraction not used. -/
def remainder (st : Story) (h : Heights) (rp : ReadPoint) : Nat :=
  st.seconds * (st.g - st.rowOf h rp.k rp.o) / st.g

/-- The float (R106): T_off less ShowRem, clamped to −5999..5999. -/
def floatOf (tOff : Int) (showRem : Nat) : Int := clampInt (-5999) 5999 (tOff - showRem)

/-- A run from its three sums. -/
def State.runOf (s : State) (story rem ahead untimed : Nat) : TimingRun :=
  ⟨story, rem, ahead, untimed, rem + ahead, floatOf s.clock.tOff (rem + ahead)⟩

/-- The timing run (R103): during a clear (R108), with the lead channel inside a story (R104, R105), or with it
UNLOADED (R107). -/
def State.timingRun (s : State) : TimingRun :=
  if s.clearInProgress then s.runOf 0 0 0 0
  else
    match (s.channel s.cues.lead).readPoint, s.currentStory s.cues.lead with
    | some rp, some st =>
      let after := s.storiesAfter st.id
      s.runOf st.id (remainder st s.heights rp) (plannedSeconds after)
        (plannedUntimed after + if st.p = none then 1 else 0)
    | _, _ => s.runOf 0 0 (plannedSeconds s.stories) (plannedUntimed s.stories)

end Sys2Proof.Machine
end

