-- ==== Sys2Proof/Machine/DeviceCommands.lean ====
section
/-! DEFINITION. The commands of the show clock (R98 to R100, R109), of the cue unit (R111, R113, R116) and of the
device (R173, R174). -/

namespace Sys2Proof.Machine

/-! ## The show clock -/

/-- CLOCK SET (R98): T_off takes the clamped value, the clock counts, the second timer restarts with a full
second. -/
def cmdClockSet (v : Int) (s : State) : State × Taken :=
  let t := clampInt 0 35999 v
  okay (.tOff t) { s with clock := { s.clock with tOff := t, state := .counting, secondTimer := some 1000 } }

/-- CLOCK HOLD (R99): a STOPPED clock is left as it is. -/
def cmdClockHold (s : State) : State × Taken :=
  match s.clock.state with
  | .stopped => okay (.clock s.clock.tOff .stopped) s
  | .counting =>
    okay (.clock s.clock.tOff .stopped)
      { s with clock := { s.clock with state := .stopped, secondTimer := none } }

/-- CLOCK RESUME (R100): a COUNTING clock is left as it is. -/
def cmdClockResume (s : State) : State × Taken :=
  match s.clock.state with
  | .counting => okay (.clock s.clock.tOff .counting) s
  | .stopped =>
    okay (.clock s.clock.tOff .counting)
      { s with clock := { s.clock with state := .counting, secondTimer := some 1000 } }

/-- The timing values of TIMING READ (R109). -/
def State.timingReport (s : State) : TimingReport :=
  let run := s.timingRun
  { tOff := s.clock.tOff, clock := s.clock.state, pt := s.pt, lead := s.cues.lead, story := run.story,
    rem := run.rem, showRem := run.showRem, float := run.float, untimed := run.untimed,
    offAirPassed := s.clock.offAirPassed }

/-- TIMING READ (R109): OFF-AIR PASSED is cleared after the response is formed. -/
def cmdTimingRead (s : State) : State × Taken :=
  okay (.timing s.timingReport) { s with clock := { s.clock with offAirPassed := false } }

/-- A second expiry (R101, R102): only in COUNTING; T_off counts down and holds at −5999, and the passage from 1 to
0 sets OFF-AIR PASSED. -/
def countSecond (s : State) : State :=
  match s.clock.state with
  | .stopped => s
  | .counting =>
    { s with
      clock :=
        { s.clock with
          tOff := max (-5999) (s.clock.tOff - 1)
          secondTimer := some 1000
          offAirPassed := s.clock.offAirPassed || decide (s.clock.tOff = 1) } }

/-! ## The cue unit -/

/-- LEAD SET (R113). -/
def cmdLeadSet (channel : Nat) (s : State) : State × Taken :=
  match toChannel channel with
  | none => refuse .argument s
  | some c => okay (.lead c) { s with cues := { s.cues with lead := c } }

/-- A cue output after CUE OUTPUT SET (R111). -/
def CueOutput.configured (o : CueOutput) (action : CueAction) (width : Option Nat) (level : Option Level) : CueOutput :=
  { action := action
    width := (width.map (clampNat 10 250)).getD o.width
    level := level.getD o.level
    pulse := if level.isSome = true ∨ action ≠ .pulse then none else o.pulse }

/-- The level of CUE OUTPUT SET: absent, or one of the defined values. -/
def levelField : Option Nat → Option (Option Level)
  | none => some none
  | some n => (toLevel n).map some

/-- CUE OUTPUT SET (R111). A presence byte that names no field leaves width and level absent, and the command is taken,
as in the example of section 7.7: R167 leaves the refusal to the command's rule, and R111 lists none for it. DEDUCED
(unsafe), notes/assumptions/17.md. -/
def cmdCueOutputSet (output action : Nat) (width level : Option Nat) (s : State) : State × Taken :=
  match toOutput output, toAction action, levelField level with
  | some o, some a, some l =>
    let x := (s.output o).configured a width l
    okay (.cueOutput x.action x.width x.level) (s.modOutput o (fun _ => x))
  | _, _, _ => refuse .argument s

/-- CUES REARM (R116). -/
def cmdCuesRearm (id : Nat) (s : State) : State × Taken :=
  match s.story? id with
  | none => refuse .notFound s
  | some st =>
    okay (.rearmed (st.lines.countP (fun l => l.fired)))
      (s.modStory id (fun x => { x with lines := x.lines.map (fun l => { l with fired := false }) }))

/-- The expiry of a running pulse timer (R112): the line becomes LOW and the timer stops. -/
def CueOutput.expire (o : CueOutput) : CueOutput :=
  match o.pulse with
  | none => o
  | some _ => { o with level := .low, pulse := none }

/-! ## The device -/

/-- DEVICE STATUS (R173). -/
def cmdDeviceStatus (s : State) : State × Taken :=
  okay (.device s.sources s.cues.lead s.freeLines s.stories.length) s

/-- IDENTIFY (R174): vendor 0x4E4C, part 40, revision A. -/
def cmdIdentify (s : State) : State × Taken := okay (.identity 0x4E4C 40 0x41) s

end Sys2Proof.Machine
end

