-- ==== Sys2Proof/Machine/HeadPorts.lean ====
section
/-! DEFINITION. The head ports: answers to FETCH (R157 to R159), position and GEOMETRY frames (R153 to R155) and
the transmitter (R161). -/

namespace Sys2Proof.Machine

/-! ## Answers -/

/-- The answer formed when a request is taken, from the story as it stands at that moment (R158, R159). -/
def formAnswer (s : State) (r : Request) : FetchAnswer :=
  if s.clearInProgress then .busy r.story r.first
  else
    match s.story? r.story with
    | none => .gone r.story r.first
    | some st =>
      if r.generation ≠ none ∧ r.generation ≠ some st.generation then .stale r.story r.first st.generation
      else if st.n < r.first then .range r.story r.first st.generation st.n
      else .lines r.story r.first st.generation st.n (st.recsFrom r.first r.count)

/-- Requests are taken oldest first for as long as fewer than 2 answers wait (R157). -/
def takeRequests (s : State) : List Request → List FetchAnswer → List Request × List FetchAnswer
  | [], answers => ([], answers)
  | r :: rs, answers =>
    if answers.length < 2 then takeRequests s rs (answers ++ [formAnswer s r]) else (r :: rs, answers)

/-- The port takes what requests it can. -/
def Head.takeAll (s : State) (h : Head) : Head :=
  { h with
    requests := (takeRequests s h.requests h.answers).1
    answers := (takeRequests s h.requests h.answers).2 }

/-! ## The transmitter -/

/-- Something of the position kind waits: a GEOMETRY frame or a position frame. -/
def Head.positionKindWaits (h : Head) : Bool := h.pendingGeom.isSome || h.waitingPos.isSome

/-- The transmitter starts the oldest answer. -/
def Head.startAnswer (h : Head) : Head :=
  match h.answers with
  | [] => h
  | a :: rest => { h with sending := some (.answer a), answers := rest, lastKind := .answer }

/-- The transmitter starts the pending GEOMETRY frame, or else the waiting position frame. -/
def Head.startPosition (h : Head) : Head :=
  match h.pendingGeom, h.waitingPos with
  | some g, _ => { h with sending := some (.geometry g), pendingGeom := none, lastKind := .position }
  | none, some f => { h with sending := some (.position f), waitingPos := none, lastKind := .position }
  | none, none => h

/-- The idle transmitter starts the next frame (R161): when both kinds wait, the kind other than the last kind
sent. -/
def Head.start (h : Head) : Head :=
  if h.sending ≠ none then h
  else if !h.answers.isEmpty && h.positionKindWaits then
    (match h.lastKind with
      | .answer => h.startPosition
      | .position => h.startAnswer)
  else if !h.answers.isEmpty then h.startAnswer
  else h.startPosition

/-- What a port does when something has joined its queues or its transmitter has come free: requests are taken,
the idle transmitter starts a frame, and the room an answer has left is used at once (R157, R161). -/
def Head.pump (s : State) (h : Head) : Head := ((h.takeAll s).start).takeAll s

/-! ## Frames -/

/-- The position frame of a channel (R153), F and T_off from a timing run made for it. -/
def positionFrame (s : State) (c : ChannelId) : PosFrame :=
  let ch := s.channel c
  let run := s.timingRun
  let place : Nat × Nat × Nat × Nat × Nat := match ch.readPoint with
    | some rp => (rp.story, ((s.story? rp.story).map Story.generation).getD 0, rp.k, rp.o, rp.frac)
    | none => (0, 0, 0, 0, 0)
  { channel := c
    state := ch.state
    story := place.1
    generation := place.2.1
    k := place.2.2.1
    o := place.2.2.2.1
    frac := place.2.2.2.2
    speed := ch.speed
    endFlag := ch.endFlag
    startFlag := ch.startFlag
    paused := ch.paused
    ownerRole := s.ownerRole c
    float := run.float
    tOff := s.clock.tOff }

/-- A formed position frame replaces the waiting one and is offered to the transmitter (R154). -/
def offerPosition (s : State) (f : PosFrame) (h : Head) : Head := Head.pump s { h with waitingPos := some f }

/-- A GEOMETRY frame is queued: it replaces a pending one and the waiting position frame is discarded (R155). -/
def queueGeometry (s : State) (g : Heights) (h : Head) : Head :=
  Head.pump s { h with pendingGeom := some g, waitingPos := none }

/-- The channel hands a position frame to each head attached to it (R51, R150). -/
def handFrames (c : ChannelId) (s : State) : State :=
  { s with heads := s.heads.map (fun h =>
      if h.attachment = some c then offerPosition s (positionFrame s c) h else h) }

/-- A GEOMETRY frame is queued at every attached port (R155). -/
def queueGeometryAll (g : Heights) (s : State) : State :=
  { s with heads := s.heads.map (fun h => if h.attachment ≠ none then queueGeometry s g h else h) }

/-- A FETCH that passed its checks (R150, R157): discarded at a detached port, queued when there is room, and
discarded with overrun set when the request queue is full. -/
def acceptFetch (s : State) (r : Request) (h : Head) : Head :=
  if h.attachment = none then h
  else if h.requests.length < 2 then Head.pump s { h with requests := h.requests ++ [r] }
  else { h with overrun := true }

end Sys2Proof.Machine
end

