-- ==== Sys2Proof/Machine/RundownCommands.lean ====
section
/-! DEFINITION. The story and rundown commands of the rundown store (R10, R12 to R19). Each answers the state after
the command and how it ended. -/

namespace Sys2Proof.Machine

/-- The record STORY NEW writes (R1): the "At creation" column. -/
def Story.create (id slugBand : Nat) : Story :=
  { id := id, air := .standby, floated := false, lock := .none, autoRetire := false, openA := false,
    openB := false, slug := [], p := none, lines := [], g := slugBand, generation := 0,
    checkInFlight := false, pendingG := none }

/-- STORY NEW (R14). -/
def cmdStoryNew (id anchor : Nat) (s : State) : State × Taken :=
  if id = 0 then refuse .argument s
  else if s.isLive id then refuse .duplicate s
  else if anchor ≠ 0 ∧ s.isLive anchor = false then refuse .notFound s
  else if 128 ≤ s.stories.length then refuse .tableFull s
  else
    let s' := orderNotice
      { s with stories := insertAfter anchor (Story.create id s.heights.slugBand) s.stories }
    okay (.liveCount s'.stories.length) s'

/-- STORY MOVE (R15). -/
def cmdStoryMove (id anchor : Nat) (s : State) : State × Taken :=
  match s.story? id with
  | none => refuse .notFound s
  | some st =>
    if anchor = id then refuse .argument s
    else if anchor ≠ 0 ∧ s.isLive anchor = false then refuse .notFound s
    else okay .empty (orderNotice { s with stories := insertAfter anchor st (removeStory id s.stories) })

/-- STORY FLOAT (R12). -/
def cmdStoryFloat (id : Nat) (s : State) : State × Taken :=
  match s.story? id with
  | none => refuse .notFound s
  | some st =>
    if st.air = .doomed then refuse .state s
    else if st.floated then okay (.floated true) s
    else
      okay (.floated true)
        { s.modStory id (fun x => { x with floated := true }) with pt := s.pt - st.seconds }

/-- STORY RESTORE (R12), with the order-change notice of R3 after each taken one. -/
def cmdStoryRestore (id : Nat) (s : State) : State × Taken :=
  match s.story? id with
  | none => refuse .notFound s
  | some st =>
    if st.air = .doomed then refuse .state s
    else if st.floated then
      okay (.floated false)
        (orderNotice { s.modStory id (fun x => { x with floated := false }) with pt := s.pt + st.seconds })
    else okay (.floated false) s

/-- STORY KILL (R10). -/
def cmdStoryKill (id : Nat) (s : State) : State × Taken :=
  match s.story? id with
  | none => refuse .notFound s
  | some _ => okay (.kill (kill id s).2) (kill id s).1

/-- P as STORY PROPS takes it (R16, R176): 0xFFFF is UNSET, a number above 5999 is clamped. -/
def takeP (p : Nat) : Option Nat := if p = 0xFFFF then none else some (min p 5999)

/-- STORY PROPS (R16). An auto-retire byte outside 0 and 1 is clamped to 1 or refused ARGUMENT by the free value of
notes/assumptions/5.md. -/
def cmdStoryProps (id : Nat) (slug : Option (List Byte)) (p autoRetire : Option Nat) (s : State) : State × Taken :=
  match s.story? id with
  | none => refuse .notFound s
  | some st =>
    if slug = none ∧ p = none ∧ autoRetire = none then refuse .argument s
    else if 16 < (slug.getD []).length then refuse .argument s
    else if autoRetire.any (fun b => (toAutoRetire b).isNone) then refuse .argument s
    else if st.air = .doomed then refuse .state s
    else if slug.isSome = true ∧ st.lock ≠ .none then refuse .locked s
    else
      let p' := match p with
        | some x => takeP x
        | none => st.p
      let st' : Story :=
        { st with
          slug := match slug with
            | some t => storedText t
            | none => st.slug
          p := p'
          autoRetire := (autoRetire.bind toAutoRetire).getD st.autoRetire
          generation := (st.generation + 1) % 256 }
      okay (.props p' (substitutions (slug.getD [])) st'.generation)
        { s.modStory id (fun _ => st') with
          pt := if st.floated then s.pt else s.pt - st.seconds + st'.seconds }

/-- STORY LOCK (R13). -/
def cmdStoryLock (id level : Nat) (s : State) : State × Taken :=
  match s.story? id with
  | none => refuse .notFound s
  | some st =>
    match toLockLevel level with
    | none => refuse .argument s
    | some l =>
      if l.code < st.lock.code then refuse .argument s
      else okay (.lock l) (s.modStory id (fun x => { x with lock := l }))

/-- STORY UNLOCK (R13). -/
def cmdStoryUnlock (id : Nat) (s : State) : State × Taken :=
  match s.story? id with
  | none => refuse .notFound s
  | some st =>
    if st.lock = .final then refuse .locked s
    else okay (.lock .none) (s.modStory id (fun x => { x with lock := .none }))

/-- The position of a story in the running order, counted from 1 (R17). -/
def State.position (s : State) (id : Nat) : Nat := s.stories.findIdx (fun st => st.id == id) + 1

/-- A story record as STORY INFO reports it (R17). -/
def Story.report (st : Story) (position : Nat) : StoryReport :=
  { id := st.id, air := st.air, floated := st.floated, autoRetire := st.autoRetire,
    checking := st.checkInFlight, lock := st.lock, openA := st.openA, openB := st.openB, p := st.p, n := st.n,
    g := st.g, generation := st.generation, position := position, slug := st.slug }

/-- STORY INFO (R17). -/
def cmdStoryInfo (id : Nat) (s : State) : State × Taken :=
  match s.story? id with
  | none => refuse .notFound s
  | some st => okay (.info (st.report (s.position id))) s

/-- ORDER LIST (R18). -/
def cmdOrderList (after count : Nat) (s : State) : State × Taken :=
  if after ≠ 0 ∧ s.isLive after = false then refuse .notFound s
  else
    let rest := if after = 0 then s.stories else (s.stories.dropWhile (fun st => st.id != after)).drop 1
    let listed := rest.take (clampNat 1 32 count)
    okay (.order (decide (listed.length < rest.length))
      (listed.map (fun st => ⟨st.id, st.air, st.floated⟩))) s

/-- RUNDOWN CLEAR taken (R19): clear in progress is set and both channels are unloaded. The stories left are
retired by the time it completes (assumption 9). -/
def cmdRundownClear (s : State) : State × Taken :=
  (unload .b (unload .a { s with clearInProgress := true }), .running (.clear s.stories.length))

/-- The completion of RUNDOWN CLEAR (R19): every story has been retired and its lines returned (R26), PT is 0, the
mark records and the cue record are cleared, and clear in progress is cleared. -/
def completeClear (s : State) : State :=
  let s' : State :=
    { s with
      stories := []
      freeLines := s.freeLines + (s.stories.map Story.n).sum
      pt := 0
      cues := { s.cues with lastCue := 0, count := 0 }
      clearInProgress := false }
  (s'.modChannel .a (fun ch => { ch with mark := none })).modChannel .b (fun ch => { ch with mark := none })

end Sys2Proof.Machine
end

