-- ==== Sys2Proof/Machine/LineCommands.lean ====
section
/-! DEFINITION. The commands of the line pool: STORY SPLICE with its live guard and its anchoring (R32 to R34, R84
to R91), STORY READ, STORY CHECK (R36 to R41) and GEOMETRY SET (R29 to R31). -/

namespace Sys2Proof.Machine

/-! ## STORY SPLICE -/

/-- A splice range or insert point meets the guard window of read line `l` and width `g` (R84). -/
def meetsWindow (l g k m : Nat) : Bool :=
  if m = 0 then decide (l ≤ k) && decide (k + 1 ≤ l + g)
  else decide (k + 1 ≤ l + g) && decide (l + 1 ≤ k + m)

/-- A channel's live guard forbids a splice of a story it is inside (R85). -/
def guardForbids (s : State) (c : ChannelId) (st : Story) (k m : Nat) : Bool :=
  let ch := s.channel c
  match ch.readPoint with
  | none => false
  | some rp =>
    st.opens c && decide (rp.story = st.id) && decide (ch.state = .live) && decide (0 < ch.tuning.guard)
      && meetsWindow rp.k ch.tuning.guard k m

/-- The arguments of a splice are inside what the command defines (R32 step 2, but for the new lines' own
checks). -/
def spliceArgsOk (n k m c : Nat) : Bool :=
  !(decide (k = 0) || decide (n + 1 < k) || (decide (0 < m) && decide (n + 1 < k + m)) || decide (8 < c)
    || (decide (m = 0) && decide (c = 0)))

/-- The line list after a splice: lines k..k+m−1 replaced by the new lines (R34). -/
def spliceLines (ls : List Line) (k m : Nat) (new : List Line) : List Line :=
  ls.take (k - 1) ++ new ++ ls.drop (k - 1 + m)

/-- The story after an accepted splice (R34): lines, G and generation. -/
def Story.spliced (st : Story) (h : Heights) (k m : Nat) (new : List Line) : Story :=
  { st with
    lines := spliceLines st.lines k m new
    g := st.g - linesHeight h ((st.lines.drop (k - 1)).take m) + linesHeight h new
    generation := (st.generation + 1) % 256 }

/-- STORY SPLICE (R32, R34), its checks in order. -/
def cmdStorySplice (id k m : Nat) (new : List RawLine) (s : State) : State × Taken :=
  match s.story? id with
  | none => refuse .notFound s
  | some st =>
    let c := new.length
    if spliceArgsOk st.n k m c then
      match newLines new with
      | none => refuse .argument s
      | some ls =>
        if st.air = .doomed then refuse .state s
        else if st.lock ≠ .none then refuse .locked s
        else if 255 + m < st.n + c then refuse .lineLimit s
        else if s.freeLines + m < c then refuse .poolEmpty s
        else if guardForbids s .a st k m || guardForbids s .b st k m then refuse .onAir s
        else
          let st' := st.spliced s.heights k m ls
          let s1 := { s.modStory id (fun _ => st') with freeLines := s.freeLines + m - c }
          let s2 := spliceNoticeAt .b id k m c (spliceNoticeAt .a id k m c s1)
          okay (.splice st'.n st'.g st'.generation ((new.map (fun l => substitutions l.text)).sum)) s2
    else refuse .argument s

/-! ## STORY READ -/

/-- STORY READ (R36). -/
def cmdStoryRead (id first count : Nat) (s : State) : State × Taken :=
  match s.story? id with
  | none => refuse .notFound s
  | some st =>
    if st.n < first then refuse .argument s
    else okay (.lines id st.generation st.n first (st.recsFrom first (clampNat 1 8 count))) s

/-! ## STORY CHECK -/

/-- The attribute byte a line puts into the check: its byte with the fired bit as 0 (R177). -/
def Line.checkBytes (l : Line) : List Byte := lineAttr l false :: textBytes l.text

/-- The byte sequence of a check (R39). -/
def Story.checkSequence (st : Story) : List Byte := textBytes st.slug ++ st.lines.flatMap Line.checkBytes

/-- STORY CHECK taken (R38): the check-in-flight flag is set and the check begins. -/
def cmdStoryCheck (id : Nat) (s : State) : State × Taken :=
  match s.story? id with
  | none => refuse .notFound s
  | some _ => (s.modStory id (fun x => { x with checkInFlight := true }), .running (.check id))

/-- The completion of a check (R41): the flag is cleared and the response is OK with the CRC, n and the
generation. -/
def completeCheck (id : Nat) (s : State) : State :=
  match s.story? id with
  | none => s.respond .gone 0x1B .empty
  | some st =>
    (s.modStory id (fun x => { x with checkInFlight := false })).respond .ok 0x1B
      (.check (crc16 st.checkSequence) st.n st.generation)

/-! ## GEOMETRY SET -/

/-- The five heights after the clamps of R29. -/
def Heights.clamped (h : Heights) : Heights :=
  ⟨clampNat 8 96 h.small, clampNat 8 96 h.standard, clampNat 8 96 h.large, clampNat 8 96 h.spacer,
    clampNat 16 96 h.slugBand⟩

/-- GEOMETRY SET taken (R29): the clamped table and each story's G under it are held as pending. -/
def cmdGeometrySet (h : Heights) (s : State) : State × Taken :=
  if s.channelA.state = .live ∨ s.channelB.state = .live then refuse .onAir s
  else
    ({ s with
        pendingHeights := some h.clamped
        stories := s.stories.map (fun st => { st with pendingG := some (geometryOf h.clamped st.lines) }) },
      .running .geometry)

/-- The completion of the geometry recompute (R31): the pending table and the pending G values take effect, the
PARKED channels are brought within the new heights, every attached head is queued a GEOMETRY frame, and the
response is OK with the five heights. -/
def completeGeometry (s : State) : State :=
  match s.pendingHeights with
  | none => s
  | some h =>
    let s1 : State :=
      { s with
        heights := h
        pendingHeights := none
        stories := s.stories.map (fun st => { st with g := st.pendingG.getD st.g, pendingG := none }) }
    let s2 := geometryAdjust .b (geometryAdjust .a s1)
    (queueGeometryAll h s2).respond .ok 0x60 (.heights h)

end Sys2Proof.Machine
end

