-- ==== Sys2Proof/Machine/Arbiter.lean ====
section
/-! DEFINITION. The control arbiter (R136 to R148): requesting, claims, departures and hand-back. -/

namespace Sys2Proof.Machine

/-! ## Requesting (R138, R139) -/

/-- The deflection lies outside the dead zone. -/
def outsideDeadZone (dz : Nat) (d : Int) : Bool := decide (dz < d.natAbs)

/-- A REPORT of the owner that shows activity (R138). -/
def showsActivity (dz : Nat) (d j : Int) (take : Bool) : Bool := outsideDeadZone dz d || decide (j ≠ 0) || take

/-- The TAKE latch after a REPORT (R139): a RELEASE press clears it, a TAKE press of an OPERATOR sets it. -/
def latchAfter (role : Role) (take release latch : Bool) : Bool :=
  if role = .operator then (if release then false else take || latch) else latch

/-- Whether a station is requesting on a REPORT, its latch already updated (R139). -/
def requesting (role : Role) (dz : Nat) (d j : Int) (release latch : Bool) : Bool :=
  !release && (outsideDeadZone dz d || decide (j ≠ 0) || (decide (role = .operator) && latch))

/-! ## Changes of owner -/

/-- The overridden mark of a station. -/
def setOverridden (p : Fin 4) (v : Bool) (s : State) : State := s.modStation p (fun st => { st with overridden := v })

/-- A station becomes owner by any path (R138, R141 to R144): it leaves the waiting list, the idle time starts from
0, its overridden mark is cleared, OWNER CHANGED is set and T is recomputed from its held deflection (R147). -/
def becomeOwner (c : ChannelId) (p : Fin 4) (s : State) : State :=
  let s1 := s.modArbiter c (fun a => { a with owner := some p, waiting := a.waiting.filter (· ≠ p), idle := 0 })
  let s2 := setOverridden p false s1
  recompute c (s2.modChannel c (fun ch => { ch with ownerChanged := true }))

/-- A station leaves the waiting list of a channel (R146); the order of the others is kept. -/
def leaveWaiting (c : ChannelId) (p : Fin 4) (s : State) : State :=
  s.modArbiter c (fun a => { a with waiting := a.waiting.filter (· ≠ p) })

/-- A station joins the waiting list at its tail, or keeps its place in it; on joining, its overridden mark is
cleared (R143). -/
def joinWaiting (c : ChannelId) (p : Fin 4) (s : State) : State :=
  if p ∈ (s.arbiter c).waiting then s
  else setOverridden p false (s.modArbiter c (fun a => { a with waiting := a.waiting ++ [p] }))

/-- Station p ranks before station q at the hand-back (R145): the last-loser after every other, then OPERATOR
before PRESENTER, then the lower rank, then the lower port number. -/
def ranksBefore (s : State) (loser : Option (Fin 4)) (p q : Fin 4) : Bool :=
  if decide (loser = some p) ≠ decide (loser = some q) then decide (loser = some q)
  else if decide ((s.station p).role = .operator) ≠ decide ((s.station q).role = .operator) then
    decide ((s.station p).role = .operator)
  else if (s.station p).rank ≠ (s.station q).rank then decide ((s.station p).rank < (s.station q).rank)
  else decide (p < q)

/-- The station the hand-back chooses from a waiting list (R145). -/
def successor (s : State) (loser : Option (Fin 4)) : List (Fin 4) → Option (Fin 4)
  | [] => none
  | p :: ps =>
    match successor s loser ps with
    | none => some p
    | some q => some (if ranksBefore s loser q p then q else p)

/-- A channel has lost its owner without a successor: the overridden marks of the stations bound to it are
cleared (R148). -/
def clearMarks (c : ChannelId) (s : State) : State :=
  { s with stations := s.stations.map (fun st => if st.channel = c then { st with overridden := false } else st) }

/-- The owner departs (R144): the hand-back uses the last-loser from before this departure; `lost` says that the
departure is by RELEASE or lapse, which makes the station the last-loser. -/
def depart (c : ChannelId) (p : Fin 4) (lost : Bool) (s : State) : State :=
  let before := s.arbiter c
  let s1 := (s.modStation p (fun st => { st with takeLatch := false })).modArbiter c (fun a => { a with owner := none })
  let s2 := match successor s1 before.lastLoser before.waiting with
    | some q => becomeOwner c q s1
    | none =>
      let s2 := clearMarks c (s1.modArbiter c (fun a => { a with idle := 0 }))
      recompute c (s2.modChannel c (fun ch => { ch with ownerChanged := true }))
  if lost then s2.modArbiter c (fun a => { a with lastLoser := some p }) else s2

/-! ## Settling a channel on a REPORT (R140 to R143) -/

/-- The claim of a requesting non-owner (R141, R142, R143). -/
def claim (c : ChannelId) (p : Fin 4) (takePress : Bool) (s : State) : State :=
  match (s.arbiter c).owner with
  | none => becomeOwner c p s
  | some q =>
    let mine := (s.station p).role
    let theirs := (s.station q).role
    if mine = .operator ∧ takePress = true ∧ theirs = .presenter then
      setOverridden q true (becomeOwner c p s)
    else if mine = theirs ∧ s.handOff ≤ (s.arbiter c).idle then becomeOwner c p s
    else joinWaiting c p s

/-- The arbiter at an accepted REPORT (R136, R140): the held deflection, the latch, the owner's own REPORT, then
the requesting test and the claim of a non-owner. -/
def settle (p : Fin 4) (d j : Int) (takePress releasePress : Bool) (s : State) : State :=
  let st := s.station p
  let c := st.channel
  let dz := (s.channel c).tuning.dz
  let latch := latchAfter st.role takePress releasePress st.takeLatch
  let take := takePress && !releasePress
  let s1 := s.modStation p (fun st => { st with held := some d, takeLatch := latch })
  if (s1.arbiter c).owner = some p then
    if releasePress then leaveWaiting c p (depart c p true s1)
    else if showsActivity dz d j take then s1.modArbiter c (fun a => { a with idle := 0 })
    else s1
  else if requesting st.role dz d j releasePress latch then claim c p take s1
  else leaveWaiting c p s1

/-- A station leaves ACTIVE (R136, R144, R146): it departs if it owns its channel, and leaves the waiting list
otherwise; its TAKE latch and overridden mark are cleared. -/
def leaveActive (p : Fin 4) (lost : Bool) (s : State) : State :=
  let c := (s.station p).channel
  let s1 := s.modStation p (fun st => { st with takeLatch := false, overridden := false })
  if (s1.arbiter c).owner = some p then depart c p lost s1 else leaveWaiting c p s1

/-- The reconfigured station is no longer anyone's last-loser (R136). -/
def forgetLoser (p : Fin 4) (s : State) : State :=
  let drop (a : Arbitration) : Arbitration := if a.lastLoser = some p then { a with lastLoser := none } else a
  (s.modArbiter .a drop).modArbiter .b drop

end Sys2Proof.Machine
end

