-- ==== Sys2Proof/Machine/StationPorts.lean ====
section
/-! DEFINITION. The receivers of the station and head ports (R123, R156), the taking of a REPORT (R126 to R128), the
ANSWER (R130, R131), the lapse (R129), and what a channel does with the presses and the jog of a REPORT
(R60). -/

namespace Sys2Proof.Machine

/-! ## The receiver of a station or head port -/

/-- What a character makes of a port's receiver: nothing yet, a framing fault, or a complete frame. -/
inductive PortEvent where
  | nothing
  | fault
  | complete (len : Nat) (body : List Byte) (check : Byte)
deriving DecidableEq, Repr

/-- The receiver takes one character (R123). A character with a missing stop bit is a framing fault whether or not a
frame is in progress; a length byte of 0 or above 16 is one; within a frame every character is data. -/
def PortRx.feed (rx : PortRx) (c : LineChar) : PortRx × PortEvent :=
  if c.stopOk = false then (.hunting, .fault)
  else
    match rx with
    | .hunting => (if c.code = 0xA5 then .marker else .hunting, .nothing)
    | .marker =>
      if c.code.toNat = 0 ∨ 16 < c.code.toNat then (.hunting, .fault) else (.body c.code.toNat [], .nothing)
    | .body len got =>
      if got.length < len then (.body len (got ++ [c.code]), .nothing)
      else (.hunting, .complete len got c.code)

/-- The gap timer of a receiver: running while a frame is in progress, restarted at each of its characters. -/
def PortRx.gapTimer (rx : PortRx) : Timer := if rx = .hunting then none else some 5

/-! ## The ANSWER -/

/-- The ANSWER of a port, formed from the state as it stands (R130). -/
def formReply (p : Fin 4) (status : AnswerStatus) (s : State) : Answer :=
  let ch := s.channel (s.station p).channel
  ⟨status, s.tally p, ch.speedBar, ch.paused⟩

/-- The ANSWER is sent at once by an idle transmitter, and otherwise goes into the waiting slot, replacing one
already there (R131). -/
def Station.offer (st : Station) (a : Answer) : Station :=
  match st.sending with
  | none => { st with sending := some a }
  | some _ => { st with waitingAnswer := some a }

/-- The port answers a REPORT. -/
def answer (p : Fin 4) (status : AnswerStatus) (s : State) : State :=
  s.modStation p (fun st => st.offer (formReply p status s))

/-! ## Taking a REPORT -/

/-- The presses of a REPORT (R127): each button at 1 that was at 0 in the last levels, none at a baseline. -/
def pressesOf (st : Station) (now : Buttons) : Buttons :=
  match st.state, st.lastLevels with
  | .active, some old =>
    ⟨now.pause && !old.buttons.pause, now.mark && !old.buttons.mark, now.next && !old.buttons.next,
      now.prev && !old.buttons.prev, now.take && !old.buttons.take, now.release && !old.buttons.release⟩
  | _, _ => ⟨false, false, false, false, false, false⟩

/-- What the bound channel does with the presses and the jog of an accepted REPORT, after the arbiter has settled
ownership (R60): PAUSE, then NEXT or PREV (both cancel), then the owner's jog, then the recompute of T for the
owner. PAUSE, NEXT and PREV act from the owner and from an OPERATOR. An UNLOADED channel ignores everything. -/
def applyReport (p : Fin 4) (press : Buttons) (j : Int) (s : State) : State :=
  let st := s.station p
  let c := st.channel
  if (s.channel c).state = .unloaded then s
  else
    let owns := decide ((s.arbiter c).owner = some p)
    let acts := owns || decide (st.role = .operator)
    let s1 := if acts && press.pause then pausePress c s else s
    let s2 := if acts && press.next && !press.prev then nextPress c s1
      else if acts && press.prev && !press.next then prevPress c s1
      else s1
    let s3 := if owns && decide (j ≠ 0) then jog c j s2 else s2
    if owns then recompute c s3 else s3

/-- An accepted REPORT updates the station's own record (R127). -/
def acceptLevels (p : Fin 4) (l : Levels) (s : State) : State :=
  s.modStation p (fun st => { st with lapse := some s.lapseTime, lastLevels := some l, state := .active })

/-- An accepted REPORT is handed on: the arbiter, the cue unit for a MARK press, the channel (R128). -/
def takeReport (p : Fin 4) (l : Levels) (s : State) : State :=
  let press := pressesOf (s.station p) l.buttons
  let s1 := settle p l.d l.j press.take press.release (acceptLevels p l s)
  let s2 := if press.mark then markPress (s.station p).channel s1 else s1
  applyReport p press l.j s2

/-- A complete frame at a station port (R126): the first case that applies gives the outcome, and each REPORT that
completes is answered. -/
def completeReport (p : Fin 4) (len : Nat) (body : List Byte) (check : Byte) (s : State) : State :=
  if (s.station p).role = .off then answer p .rejected s
  else if checkPasses (u8 len :: body) check = false then
    answer p .checkError (s.modStation p (fun st => { st with checkFlag := true }))
  else
    match toLevels body with
    | none => answer p .rejected (s.modStation p (fun st => { st with fieldFlag := true }))
    | some l => answer p .accepted (takeReport p l s)

/-- A framing fault at a station port (R123): FRAMING is set when the role is PRESENTER or OPERATOR. -/
def framingFault (p : Fin 4) (s : State) : State :=
  s.modStation p (fun st => { st with framingFlag := st.framingFlag || decide (st.role ≠ .off) })

/-- A station port receives one character (R123); before start-up completes it is discarded. -/
def stationChar (p : Fin 4) (c : LineChar) (s : State) : State :=
  if s.started = false then s
  else
    let r := (s.station p).rx.feed c
    let s1 := s.modStation p (fun st => { st with rx := r.1, gap := r.1.gapTimer })
    match r.2 with
    | .nothing => s1
    | .fault => framingFault p s1
    | .complete len body check => completeReport p len body check s1

/-- A gap of more than 5 ms abandons the station frame in progress as a framing fault (R123). -/
def stationGap (p : Fin 4) (s : State) : State :=
  if (s.station p).rx = .hunting then s
  else framingFault p (s.modStation p (fun st => { st with rx := .hunting, gap := none }))

/-- The expiry of a running lapse timer (R129). -/
def lapse (p : Fin 4) (s : State) : State :=
  if (s.station p).lapse = none then s
  else
    leaveActive p true
      (s.modStation p (fun st => { st with state := .silent, lapse := none, lapseFlag := true }))

/-- The ANSWER transmitter finishes (R131): it sends the ANSWER in the slot, if one is there. -/
def Station.answerSent (st : Station) : Station :=
  match st.sending with
  | none => st
  | some _ => { st with sending := st.waitingAnswer, waitingAnswer := none }

/-! ## The receiver of a head port -/

/-- A complete frame at a head port (R156): a frame that fails its check byte or is no FETCH by its length is
discarded; a FETCH is accepted as R157 says. -/
def completeFetch (h : Fin 4) (len : Nat) (body : List Byte) (check : Byte) (s : State) : State :=
  if checkPasses (u8 len :: body) check = false then s
  else
    match toRequest body with
    | none => s
    | some r => s.modHead h (acceptFetch s r)

/-- A head port receives one character (R156); before start-up completes it is discarded. A framing fault abandons
the frame without answer or flag. -/
def headChar (h : Fin 4) (c : LineChar) (s : State) : State :=
  if s.started = false then s
  else
    let r := (s.head h).rx.feed c
    let s1 := s.modHead h (fun hd => { hd with rx := r.1, gap := r.1.gapTimer })
    match r.2 with
    | .nothing => s1
    | .fault => s1
    | .complete len body check => completeFetch h len body check s1

/-- A gap of more than 5 ms abandons the FETCH frame in progress without answer or flag (R156). -/
def headGap (h : Fin 4) (s : State) : State :=
  s.modHead h (fun hd => { hd with rx := .hunting, gap := none })

/-- The transmitter of a head port has finished a frame and starts the next (R161). -/
def headSent (h : Fin 4) (s : State) : State :=
  if (s.head h).sending = none then s else s.modHead h (fun hd => Head.pump s { hd with sending := none })

end Sys2Proof.Machine
end

