-- ==== Sys2Proof/Machine/PortCommands.lean ====
section
/-! DEFINITION. The commands of the station and head ports: STATION SET, STATION STATUS (R132, R133), HEAD SET, HEAD
STATUS (R151, R152). -/

namespace Sys2Proof.Machine

/-- Runs a command on the station or head it names; a number above 3 is refused ARGUMENT. -/
def onPort (n : Nat) (f : Fin 4 → State → State × Taken) (s : State) : State × Taken :=
  match toPort n with
  | none => refuse .argument s
  | some p => f p s

/-! ## Stations -/

/-- STATION SET names no field other than the station. -/
def StationFields.noField (f : StationFields) : Bool :=
  f.role.isNone && f.channel.isNone && f.rank.isNone && f.lapseTime.isNone && f.handOff.isNone

/-- A present role or channel is not one of the defined values. -/
def StationFields.bad (f : StationFields) : Bool :=
  f.role.any (fun n => (toRole n).isNone) || f.channel.any (fun n => (toChannel n).isNone)

/-- One of role, channel and rank is present, so that the station is reconfigured. -/
def StationFields.reconfigures (f : StationFields) : Bool := f.role.isSome || f.channel.isSome || f.rank.isSome

/-- The record of a reconfigured station (R132 steps 2 and 3, R136). -/
def Station.configured (st : Station) (f : StationFields) : Station :=
  let role := (f.role.bind toRole).getD st.role
  { st with
    role := role
    channel := (f.channel.bind toChannel).getD st.channel
    rank := (f.rank.map (clampNat 0 15)).getD st.rank
    state := if role = .off then .off else .silent
    lapse := none
    lastLevels := none
    held := none
    takeLatch := false
    overridden := false }

/-- The reconfiguration of a station (R132, R136, R144): it leaves under its old role and binding, it is forgotten
as last-loser, its record is written. -/
def reconfigure (p : Fin 4) (f : StationFields) (s : State) : State :=
  (forgetLoser p (leaveActive p false s)).modStation p (fun st => st.configured f)

/-- STATION SET on a station (R132, R122). -/
def setStation (f : StationFields) (p : Fin 4) (s : State) : State × Taken :=
  if f.noField || f.bad then refuse .argument s
  else
    let s1 : State :=
      { s with
        lapseTime := (f.lapseTime.map (clampNat 50 1000)).getD s.lapseTime
        handOff := (f.handOff.map (clampNat 0 5000)).getD s.handOff }
    let s2 := if f.reconfigures then reconfigure p f s1 else s1
    let st := s2.station p
    okay (.stationSet st.role st.channel st.rank st.state s2.lapseTime s2.handOff) s2

/-- STATION SET (R132). -/
def cmdStationSet (station : Nat) (f : StationFields) (s : State) : State × Taken := onPort station (setStation f) s

/-- The station record as STATION STATUS reports it (R133). -/
def State.stationReport (s : State) (p : Fin 4) : StationReport :=
  let st := s.station p
  { role := st.role, channel := st.channel, rank := st.rank, state := st.state, lastLevels := st.lastLevels,
    tally := s.tally p, checkFlag := st.checkFlag, framingFlag := st.framingFlag, fieldFlag := st.fieldFlag,
    lapseFlag := st.lapseFlag, lapseTime := s.lapseTime, handOff := s.handOff }

/-- STATION STATUS on a station (R133): the four error flags are cleared after the response is formed. -/
def statusStation (p : Fin 4) (s : State) : State × Taken :=
  okay (.station (s.stationReport p))
    (s.modStation p (fun st =>
      { st with checkFlag := false, framingFlag := false, fieldFlag := false, lapseFlag := false }))

/-- STATION STATUS (R133). -/
def cmdStationStatus (station : Nat) (s : State) : State × Taken := onPort station statusStation s

/-! ## Heads -/

/-- The head record after an attach to a channel (R151): the waiting position frame is discarded and a GEOMETRY frame
is queued. -/
def attachHead (s : State) (c : ChannelId) (h : Head) : Head :=
  queueGeometry s s.heights { h with attachment := some c }

/-- The head record after a detach (R151): the queues, the waiting position frame and the pending GEOMETRY are
emptied. -/
def Head.detach (h : Head) : Head :=
  { h with attachment := none, requests := [], answers := [], waitingPos := none, pendingGeom := none }

/-- HEAD SET on a head (R151). -/
def setHead (channel : Nat) (h : Fin 4) (s : State) : State × Taken :=
  match toAttachment channel with
  | none => refuse .argument s
  | some none => okay (.attachment none) (s.modHead h Head.detach)
  | some (some c) => okay (.attachment (some c)) (s.modHead h (attachHead s c))

/-- HEAD SET (R151). -/
def cmdHeadSet (head channel : Nat) (s : State) : State × Taken := onPort head (setHead channel) s

/-- The head record as HEAD STATUS reports it (R152). -/
def Head.report (h : Head) : HeadReport :=
  ⟨h.attachment, h.requests.length, h.answers.length, h.waitingPos.isSome, h.pendingGeom.isSome, h.overrun⟩

/-- HEAD STATUS on a head (R152): the overrun flag is cleared after the response is formed. -/
def statusHead (h : Fin 4) (s : State) : State × Taken :=
  okay (.head (s.head h).report) (s.modHead h (fun hd => { hd with overrun := false }))

/-- HEAD STATUS (R152). -/
def cmdHeadStatus (head : Nat) (s : State) : State × Taken := onPort head statusHead s

end Sys2Proof.Machine
end

