-- ==== Sys2Proof/Machine/Gateway.lean ====
section
/-! DEFINITION. The gateway link: the receiver (R163, R164), one command at a time (R166 to R169), and the dispatch of
the catalogue (R171). -/

namespace Sys2Proof.Machine

/-! ## The commands of the catalogue -/

/-- A command is taken by the block that owns it (R168, R171). -/
def take (cmd : Command) (s : State) : State × Taken :=
  match cmd with
  | .storyNew id anchor => cmdStoryNew id anchor s
  | .storyMove id anchor => cmdStoryMove id anchor s
  | .storyFloat id => cmdStoryFloat id s
  | .storyRestore id => cmdStoryRestore id s
  | .storyKill id => cmdStoryKill id s
  | .storyProps id slug p auto => cmdStoryProps id slug p auto s
  | .storyLock id level => cmdStoryLock id level s
  | .storyUnlock id => cmdStoryUnlock id s
  | .storySplice id k m new => cmdStorySplice id k m new s
  | .storyRead id first count => cmdStoryRead id first count s
  | .storyInfo id => cmdStoryInfo id s
  | .storyCheck id => cmdStoryCheck id s
  | .orderList after count => cmdOrderList after count s
  | .rundownClear => cmdRundownClear s
  | .cuesRearm id => cmdCuesRearm id s
  | .channelLoad ch id k => cmdChannelLoad ch id k s
  | .channelRun ch => cmdChannelRun ch s
  | .channelPark ch => cmdChannelPark ch s
  | .channelUnload ch => cmdChannelUnload ch s
  | .channelTune ch f => cmdChannelTune ch f s
  | .channelStatus ch => cmdChannelStatus ch s
  | .stationSet st f => cmdStationSet st f s
  | .stationStatus st => cmdStationStatus st s
  | .headSet h ch => cmdHeadSet h ch s
  | .headStatus h => cmdHeadStatus h s
  | .clockSet v => cmdClockSet v s
  | .clockHold => cmdClockHold s
  | .clockResume => cmdClockResume s
  | .timingRead => cmdTimingRead s
  | .geometrySet h => cmdGeometrySet h s
  | .leadSet ch => cmdLeadSet ch s
  | .cueOutputSet out action width level => cmdCueOutputSet out action width level s
  | .deviceStatus => cmdDeviceStatus s
  | .identify => cmdIdentify s

/-- The link after a command has been taken (R168): it answers a completed command and goes to EXECUTING with one
that takes time. -/
def conclude (code : Byte) (r : State × Taken) : State :=
  match r.2 with
  | .done status payload => r.1.respond status code payload
  | .running op => { r.1 with link := { r.1.link with state := .executing op } }

/-! ## The receiver -/

/-- What a character makes of the gateway receiver: nothing, the end of a complete frame, or the end of a frame
abandoned after its length byte. -/
inductive GatewayEvent where
  | nothing
  | complete (len : Nat) (got : List Byte)
  | abandoned
deriving DecidableEq, Repr

/-- The receiver takes one character (R163). A character with a missing stop bit in the place of the length byte is not
taken as a received length byte, so the frame is discarded without an answer; R163 does not say. DEDUCED (unsafe),
notes/assumptions/19.md. -/
def GatewayRx.feed (rx : GatewayRx) (c : LineChar) : GatewayRx × GatewayEvent :=
  match rx with
  | .hunting => (if c.stopOk = true ∧ c.code = 0x7E then .marker else .hunting, .nothing)
  | .marker =>
    if c.stopOk = false then (.hunting, .nothing)
    else if c.code.toNat = 0 ∨ 250 < c.code.toNat then (.hunting, .abandoned)
    else (.body c.code.toNat [], .nothing)
  | .body len got =>
    if c.stopOk = false then (.hunting, .abandoned)
    else if got.length + 1 < len + 2 then (.body len (got ++ [c.code]), .nothing)
    else (.hunting, .complete len (got ++ [c.code]))

/-- The gap timer of the gateway receiver: running while a frame is in progress, restarted at each character. -/
def GatewayRx.gapTimer (rx : GatewayRx) : Timer := if rx = .hunting then none else some 20

/-- The body of a complete frame that passes its CRC (R164), `none` for a faulty one. -/
def goodBody (len : Nat) (got : List Byte) : Option (List Byte) :=
  let body := got.take len
  if got.drop len = be16 (crc16 (u8 len :: body)) then some body else none

/-! ## The end of a frame -/

/-- A frame ends while the link is IDLE (R166): FRAME, UNKNOWN, LENGTH, or the dispatch. `body` is `none` for a
faulty frame. -/
def handleFrame (body : Option (List Byte)) (s : State) : State :=
  match body with
  | some (code :: args) =>
    match catalogue code with
    | none => s.respond .unknown code .empty
    | some read =>
      match read args with
      | none => s.respond .length code .empty
      | some cmd => conclude code (take cmd s)
  | _ => s.respond .frame 0 .empty

/-- A frame ends while a command is in flight (R169): a BUSY reply goes into an empty slot, echoing the code of a
frame that passed its CRC and 0 for a faulty one; otherwise the frame is discarded. -/
def busyFrame (body : Option (List Byte)) (s : State) : State :=
  match s.link.slot with
  | some _ => s
  | none => { s with link := { s.link with slot := some ((body.bind List.head?).getD 0) } }

/-- A frame ends, faulty or good. -/
def frameEnds (body : Option (List Byte)) (s : State) : State :=
  if s.link.state = .idle then handleFrame body s else busyFrame body s

/-- The link receives one character (R163); before start-up completes it is discarded (R175). -/
def gatewayChar (c : LineChar) (s : State) : State :=
  if s.started = false then s
  else
    let r := s.link.rx.feed c
    let s1 : State := { s with link := { s.link with rx := r.1, gap := r.1.gapTimer } }
    match r.2 with
    | .nothing => s1
    | .abandoned => frameEnds none s1
    | .complete len got => frameEnds (goodBody len got) s1

/-- The link receives some characters in turn. -/
def gatewayChars (chars : List LineChar) (s : State) : State := chars.foldl (fun s c => gatewayChar c s) s

/-- The expiry of the gap timer (R163): a frame of which only the marker has come is discarded, one past its length
byte ends as a faulty frame. -/
def gatewayGap (s : State) : State :=
  let s1 : State := { s with link := { s.link with rx := .hunting, gap := none } }
  match s.link.rx with
  | .hunting => s
  | .marker => s1
  | .body _ _ => frameEnds none s1

/-! ## The transmitter -/

/-- A frame of the link has been sent whole (R168, R169): the BUSY reply in the slot follows the response, and the
slot is emptied when that reply has been sent whole. -/
def gatewaySent (s : State) : State :=
  match s.link.state with
  | .answering r =>
    if r.status = .busy then { s with link := { s.link with state := .idle, slot := none } }
    else
      match s.link.slot with
      | some code => { s with link := { s.link with state := .answering ⟨.busy, code, .empty⟩ } }
      | none => { s with link := { s.link with state := .idle } }
  | _ => s

/-! ## Completions of the commands that take time -/

/-- A story check is finished (R41): nothing when no check is in flight. -/
def finishCheck (s : State) : State :=
  match s.link.state with
  | .executing (.check id) => completeCheck id s
  | _ => s

/-- A rundown clear is finished (R19): nothing when no clear is in flight. -/
def finishClear (s : State) : State :=
  match s.link.state with
  | .executing (.clear n) => (completeClear s).respond .ok 0x21 (.storyCount n)
  | _ => s

/-- A geometry recompute is finished (R31): nothing when no recompute is in flight. -/
def finishGeometry (s : State) : State :=
  match s.link.state with
  | .executing .geometry => completeGeometry s
  | _ => s

end Sys2Proof.Machine
end

