-- ==== Sys2Proof/Machine/EventRows.lean ====
section
/-! DEFINITION. The meanings of the rows that are not gateway frames: reset and start-up (R175), the timers, the
station and head ports. A timer row is the expiry of a timer that runs; on a timer that is stopped there is no expiry
and nothing changes (notes/assumptions/3.md). -/

namespace Sys2Proof.Machine

/-! ## Reset and start-up (R21, R42, R66, R96, R110, R120, R135, R149, R162, R175) -/

/-- Every block takes its reset values; the commands that wait outside the part still wait. -/
def resetPart (s : State) : State := { State.held with pending := s.pending }

/-- Start-up completes (R175, R66): GW_RATE is sampled, the link receives, the step timers start. On a part that has
started already there is nothing to complete. -/
def startUp (gwRate : Strap) (s : State) : State :=
  if s.started then s
  else
    { s with
      started := true
      link := { s.link with rate := gwRate }
      channelA := { s.channelA with stepTimer := true }
      channelB := { s.channelB with stepTimer := true } }

/-- POWER_ON_RESET (R175). -/
def execPowerOnReset (s : State) : Host.Outcome State Fault Refusal := .next (resetPart s)

/-- RESET_ASSERTED (R175): acts as power-on reset does. -/
def execResetAsserted (s : State) : Host.Outcome State Fault Refusal := .next (resetPart s)

/-- START_UP_COMPLETE (R175). -/
def execStartUpComplete (gwRate : Strap) (s : State) : Host.Outcome State Fault Refusal := .next (startUp gwRate s)

/-! ## Timers of the channels, the clock and the cue unit -/

/-- A step expiry of a channel (R51): a LIVE channel ramps and moves, and every attached head is handed a position
frame. -/
def channelStep (c : ChannelId) (s : State) : State :=
  if (s.channel c).stepTimer = false then s
  else handFrames c (if (s.channel c).state = .live then rampAndMove c s else s)

/-- CHANNEL_STEP_EXPIRY (R51). -/
def execChannelStepExpiry (c : ChannelId) (s : State) : Host.Outcome State Fault Refusal := .next (channelStep c s)

/-- SECOND_EXPIRY (R101). -/
def execSecondExpiry (s : State) : Host.Outcome State Fault Refusal := .next (countSecond s)

/-- CUE_PULSE_EXPIRY (R112). -/
def execCuePulseExpiry (output : Fin 4) (s : State) : Host.Outcome State Fault Refusal :=
  .next (s.modOutput output CueOutput.expire)

/-! ## The station ports -/

/-- STATION_REPORT (R123, R126): the characters of a REPORT arrive. -/
def execStationReport (port : Fin 4) (chars : List Byte) (s : State) : Host.Outcome State Fault Refusal :=
  .next (chars.foldl (fun s b => stationChar port (goodChar b) s) s)

/-- STATION_FRAMING_FAULT (R123): the character that makes the fault arrives. -/
def execStationFramingFault (port : Fin 4) (char : LineChar) (s : State) : Host.Outcome State Fault Refusal :=
  .next (stationChar port char s)

/-- STATION_GAP_EXPIRY (R123). -/
def execStationGapExpiry (port : Fin 4) (s : State) : Host.Outcome State Fault Refusal := .next (stationGap port s)

/-- LAPSE_EXPIRY (R129). -/
def execLapseExpiry (port : Fin 4) (s : State) : Host.Outcome State Fault Refusal := .next (lapse port s)

/-- ANSWER_TX_DONE (R131). -/
def execAnswerTxDone (port : Fin 4) (s : State) : Host.Outcome State Fault Refusal :=
  .next (s.modStation port Station.answerSent)

/-! ## The head ports -/

/-- FETCH (R156, R157): the characters of a FETCH frame arrive. -/
def execFetch (head : Fin 4) (chars : List Byte) (s : State) : Host.Outcome State Fault Refusal :=
  .next (chars.foldl (fun s b => headChar head (goodChar b) s) s)

/-- HEAD_FRAMING_FAULT (R156): the character that makes the fault arrives. -/
def execHeadFramingFault (head : Fin 4) (char : LineChar) (s : State) : Host.Outcome State Fault Refusal :=
  .next (headChar head char s)

/-- HEAD_GAP_EXPIRY (R156). -/
def execHeadGapExpiry (head : Fin 4) (s : State) : Host.Outcome State Fault Refusal := .next (headGap head s)

/-- HEAD_TX_DONE (R161). -/
def execHeadTxDone (head : Fin 4) (s : State) : Host.Outcome State Fault Refusal := .next (headSent head s)

end Sys2Proof.Machine
end

