-- ==== Sys2Proof/WellFormed.lean ====
section
/-! DEFINITION. Which commands are well formed: the checks on a command's operands alone, before any state
is looked at. A gateway frame has a body of 1..250 bytes (R163), one of which is the command code, so a
command's argument bytes are at most 249; UNKNOWN_COMMAND's code lies outside the catalogue of R171; and a
row that brings the characters of one frame brings at least one character and no more than the longest frame
of that port has. -/

namespace Sys2Proof

/-- The most argument bytes one gateway frame can carry (R163, R167). -/
def maxArgs : Nat := 249

/-- The most characters one gateway command frame has: marker, length byte, 250 body bytes, two CRC bytes. -/
def maxGatewayChars : Nat := 254

/-- The most characters one frame of a station or head port has: marker, length byte, 16 body bytes, check
byte (R123, R156). -/
def maxPortChars : Nat := 19

/-- The argument bytes fit one frame. -/
def argsFit (args : List Byte) : Bool := decide (args.length ≤ maxArgs)

/-- The characters of one gateway frame, whole or abandoned. -/
def gatewayCharsFit (chars : List LineChar) : Bool :=
  decide (1 ≤ chars.length) && decide (chars.length ≤ maxGatewayChars)

/-- The characters of one frame of a station or head port. -/
def portCharsFit (chars : List Byte) : Bool :=
  decide (1 ≤ chars.length) && decide (chars.length ≤ maxPortChars)

/-- A character that can make a framing fault: its stop bit is missing, or it is a length byte of 0 or
above 16 (R123). -/
def faultChar (c : LineChar) : Bool := !c.stopOk || decide (c.code.toNat = 0) || decide (16 < c.code.toNat)

/-- The operands of a command are of a form that can reach the part. -/
def Instr.wellFormed : Instr → Bool
  | .powerOnReset => true
  | .resetAsserted => true
  | .startUpComplete _ => true
  | .storyNew args => argsFit args
  | .storyMove args => argsFit args
  | .storyFloat args => argsFit args
  | .storyRestore args => argsFit args
  | .storyKill args => argsFit args
  | .storyProps args => argsFit args
  | .storyLock args => argsFit args
  | .storyUnlock args => argsFit args
  | .storySplice args => argsFit args
  | .storyRead args => argsFit args
  | .storyInfo args => argsFit args
  | .storyCheck args => argsFit args
  | .storyCheckCompletion => true
  | .orderList args => argsFit args
  | .rundownClear args => argsFit args
  | .rundownClearCompletion => true
  | .cuesRearm args => argsFit args
  | .channelLoad args => argsFit args
  | .channelRun args => argsFit args
  | .channelPark args => argsFit args
  | .channelUnload args => argsFit args
  | .channelTune args => argsFit args
  | .channelStatus args => argsFit args
  | .stationSet args => argsFit args
  | .stationStatus args => argsFit args
  | .headSet args => argsFit args
  | .headStatus args => argsFit args
  | .clockSet args => argsFit args
  | .clockHold args => argsFit args
  | .clockResume args => argsFit args
  | .timingRead args => argsFit args
  | .geometrySet args => argsFit args
  | .geometryRecomputeCompletion => true
  | .leadSet args => argsFit args
  | .cueOutputSet args => argsFit args
  | .deviceStatus args => argsFit args
  | .identify args => argsFit args
  | .unknownCommand code args => !catalogueCodes.contains code.toNat && argsFit args
  | .faultyFrame chars => gatewayCharsFit chars
  | .gatewayGapExpiry => true
  | .busyReply chars => gatewayCharsFit chars
  | .gatewayTxDone => true
  | .channelStepExpiry _ => true
  | .secondExpiry => true
  | .stationReport _ chars => portCharsFit chars
  | .stationFramingFault _ char => faultChar char
  | .stationGapExpiry _ => true
  | .lapseExpiry _ => true
  | .answerTxDone _ => true
  | .cuePulseExpiry _ => true
  | .fetch _ chars => portCharsFit chars
  | .headFramingFault _ char => faultChar char
  | .headGapExpiry _ => true
  | .headTxDone _ => true

end Sys2Proof
end

