-- ==== Sys2Proof/Machine/GatewayRows.lean ====
section
/-! DEFINITION. The meanings of the gateway command rows: a whole frame with the row's command code and the given
argument bytes arrives at GW_RX. What becomes of it is decided by R163 to R169 (a frame that ends in IDLE is checked
and dispatched, one that ends while a command is in flight is handled by the busy-reply slot) and, once dispatched, by
the rule of the command (`take`). -/

namespace Sys2Proof.Machine

/-- The result of a step that completes. -/
abbrev Ending := Host.Outcome State Fault Refusal

/-- A good frame with the given code and argument bytes arrives, character by character (R163). Argument bytes that
fit no frame are refused: no such frame exists. -/
def gatewayRow (code : Byte) (args : List Byte) (s : State) : Ending :=
  if argsFit args then .next (gatewayChars ((gatewayFrame code args).map goodChar) s) else .refused .noSuchFrame

/-- STORY_NEW (R14): a frame with code 0x10. -/
def execStoryNew (args : List Byte) (s : State) : Ending := gatewayRow 0x10 args s

/-- STORY_MOVE (R15): a frame with code 0x11. -/
def execStoryMove (args : List Byte) (s : State) : Ending := gatewayRow 0x11 args s

/-- STORY_FLOAT (R12): a frame with code 0x12. -/
def execStoryFloat (args : List Byte) (s : State) : Ending := gatewayRow 0x12 args s

/-- STORY_RESTORE (R12): a frame with code 0x13. -/
def execStoryRestore (args : List Byte) (s : State) : Ending := gatewayRow 0x13 args s

/-- STORY_KILL (R10): a frame with code 0x14. -/
def execStoryKill (args : List Byte) (s : State) : Ending := gatewayRow 0x14 args s

/-- STORY_PROPS (R16): a frame with code 0x15. -/
def execStoryProps (args : List Byte) (s : State) : Ending := gatewayRow 0x15 args s

/-- STORY_LOCK (R13): a frame with code 0x16. -/
def execStoryLock (args : List Byte) (s : State) : Ending := gatewayRow 0x16 args s

/-- STORY_UNLOCK (R13): a frame with code 0x17. -/
def execStoryUnlock (args : List Byte) (s : State) : Ending := gatewayRow 0x17 args s

/-- STORY_SPLICE (R34): a frame with code 0x18. -/
def execStorySplice (args : List Byte) (s : State) : Ending := gatewayRow 0x18 args s

/-- STORY_READ (R36): a frame with code 0x19. -/
def execStoryRead (args : List Byte) (s : State) : Ending := gatewayRow 0x19 args s

/-- STORY_INFO (R17): a frame with code 0x1A. -/
def execStoryInfo (args : List Byte) (s : State) : Ending := gatewayRow 0x1A args s

/-- STORY_CHECK (R38): a frame with code 0x1B. -/
def execStoryCheck (args : List Byte) (s : State) : Ending := gatewayRow 0x1B args s

/-- ORDER_LIST (R18): a frame with code 0x20. -/
def execOrderList (args : List Byte) (s : State) : Ending := gatewayRow 0x20 args s

/-- RUNDOWN_CLEAR (R19): a frame with code 0x21. -/
def execRundownClear (args : List Byte) (s : State) : Ending := gatewayRow 0x21 args s

/-- CUES_REARM (R116): a frame with code 0x22. -/
def execCuesRearm (args : List Byte) (s : State) : Ending := gatewayRow 0x22 args s

/-- CHANNEL_LOAD (R45): a frame with code 0x30. -/
def execChannelLoad (args : List Byte) (s : State) : Ending := gatewayRow 0x30 args s

/-- CHANNEL_RUN (R46): a frame with code 0x31. -/
def execChannelRun (args : List Byte) (s : State) : Ending := gatewayRow 0x31 args s

/-- CHANNEL_PARK (R47): a frame with code 0x32. -/
def execChannelPark (args : List Byte) (s : State) : Ending := gatewayRow 0x32 args s

/-- CHANNEL_UNLOAD (R48): a frame with code 0x33. -/
def execChannelUnload (args : List Byte) (s : State) : Ending := gatewayRow 0x33 args s

/-- CHANNEL_TUNE (R49): a frame with code 0x34. -/
def execChannelTune (args : List Byte) (s : State) : Ending := gatewayRow 0x34 args s

/-- CHANNEL_STATUS (R50): a frame with code 0x35. -/
def execChannelStatus (args : List Byte) (s : State) : Ending := gatewayRow 0x35 args s

/-- STATION_SET (R132): a frame with code 0x40. -/
def execStationSet (args : List Byte) (s : State) : Ending := gatewayRow 0x40 args s

/-- STATION_STATUS (R133): a frame with code 0x41. -/
def execStationStatus (args : List Byte) (s : State) : Ending := gatewayRow 0x41 args s

/-- HEAD_SET (R151): a frame with code 0x48. -/
def execHeadSet (args : List Byte) (s : State) : Ending := gatewayRow 0x48 args s

/-- HEAD_STATUS (R152): a frame with code 0x49. -/
def execHeadStatus (args : List Byte) (s : State) : Ending := gatewayRow 0x49 args s

/-- CLOCK_SET (R98): a frame with code 0x50. -/
def execClockSet (args : List Byte) (s : State) : Ending := gatewayRow 0x50 args s

/-- CLOCK_HOLD (R99): a frame with code 0x51. -/
def execClockHold (args : List Byte) (s : State) : Ending := gatewayRow 0x51 args s

/-- CLOCK_RESUME (R100): a frame with code 0x52. -/
def execClockResume (args : List Byte) (s : State) : Ending := gatewayRow 0x52 args s

/-- TIMING_READ (R109): a frame with code 0x53. -/
def execTimingRead (args : List Byte) (s : State) : Ending := gatewayRow 0x53 args s

/-- GEOMETRY_SET (R29): a frame with code 0x60. -/
def execGeometrySet (args : List Byte) (s : State) : Ending := gatewayRow 0x60 args s

/-- LEAD_SET (R113): a frame with code 0x61. -/
def execLeadSet (args : List Byte) (s : State) : Ending := gatewayRow 0x61 args s

/-- CUE_OUTPUT_SET (R111): a frame with code 0x62. -/
def execCueOutputSet (args : List Byte) (s : State) : Ending := gatewayRow 0x62 args s

/-- DEVICE_STATUS (R173): a frame with code 0x63. -/
def execDeviceStatus (args : List Byte) (s : State) : Ending := gatewayRow 0x63 args s

/-- IDENTIFY (R174): a frame with code 0x64. -/
def execIdentify (args : List Byte) (s : State) : Ending := gatewayRow 0x64 args s

/-- UNKNOWN_COMMAND (R166): a good frame whose code is outside the catalogue. -/
def execUnknownCommand (code : Byte) (args : List Byte) (s : State) : Ending := gatewayRow code args s

/-- FAULTY_FRAME (R163, R166): the characters of a frame that ends faulty arrive. -/
def execFaultyFrame (chars : List LineChar) (s : State) : Ending := .next (gatewayChars chars s)

/-- BUSY_REPLY (R169): the characters of a frame that ends while a command is in flight arrive. -/
def execBusyReply (chars : List LineChar) (s : State) : Ending := .next (gatewayChars chars s)

/-- GATEWAY_GAP_EXPIRY (R163): the gap timer expires. -/
def execGatewayGapExpiry (s : State) : Ending := .next (gatewayGap s)

/-- GATEWAY_TX_DONE (R168): the link has sent a frame whole. -/
def execGatewayTxDone (s : State) : Ending := .next (gatewaySent s)

/-- STORY_CHECK_COMPLETION (R41). -/
def execStoryCheckCompletion (s : State) : Ending := .next (finishCheck s)

/-- RUNDOWN_CLEAR_COMPLETION (R19). -/
def execRundownClearCompletion (s : State) : Ending := .next (finishClear s)

/-- GEOMETRY_RECOMPUTE_COMPLETION (R31). -/
def execGeometryRecomputeCompletion (s : State) : Ending := .next (finishGeometry s)

end Sys2Proof.Machine
end

