-- ==== Sys2Proof/Machine/Dispatch.lean ====
section
/-! DEFINITION. One command of the block, dispatched to its meaning: one arm per row of spec/opcode_table.json. -/

namespace Sys2Proof.Machine

def exec (i : Instr) (s : State) : Host.Outcome State Fault Refusal :=
  match i with
  | .powerOnReset => Sys2Proof.Machine.execPowerOnReset s
  | .resetAsserted => Sys2Proof.Machine.execResetAsserted s
  | .startUpComplete gwRate => Sys2Proof.Machine.execStartUpComplete gwRate s
  | .storyNew args => Sys2Proof.Machine.execStoryNew args s
  | .storyMove args => Sys2Proof.Machine.execStoryMove args s
  | .storyFloat args => Sys2Proof.Machine.execStoryFloat args s
  | .storyRestore args => Sys2Proof.Machine.execStoryRestore args s
  | .storyKill args => Sys2Proof.Machine.execStoryKill args s
  | .storyProps args => Sys2Proof.Machine.execStoryProps args s
  | .storyLock args => Sys2Proof.Machine.execStoryLock args s
  | .storyUnlock args => Sys2Proof.Machine.execStoryUnlock args s
  | .storySplice args => Sys2Proof.Machine.execStorySplice args s
  | .storyRead args => Sys2Proof.Machine.execStoryRead args s
  | .storyInfo args => Sys2Proof.Machine.execStoryInfo args s
  | .storyCheck args => Sys2Proof.Machine.execStoryCheck args s
  | .storyCheckCompletion => Sys2Proof.Machine.execStoryCheckCompletion s
  | .orderList args => Sys2Proof.Machine.execOrderList args s
  | .rundownClear args => Sys2Proof.Machine.execRundownClear args s
  | .rundownClearCompletion => Sys2Proof.Machine.execRundownClearCompletion s
  | .cuesRearm args => Sys2Proof.Machine.execCuesRearm args s
  | .channelLoad args => Sys2Proof.Machine.execChannelLoad args s
  | .channelRun args => Sys2Proof.Machine.execChannelRun args s
  | .channelPark args => Sys2Proof.Machine.execChannelPark args s
  | .channelUnload args => Sys2Proof.Machine.execChannelUnload args s
  | .channelTune args => Sys2Proof.Machine.execChannelTune args s
  | .channelStatus args => Sys2Proof.Machine.execChannelStatus args s
  | .stationSet args => Sys2Proof.Machine.execStationSet args s
  | .stationStatus args => Sys2Proof.Machine.execStationStatus args s
  | .headSet args => Sys2Proof.Machine.execHeadSet args s
  | .headStatus args => Sys2Proof.Machine.execHeadStatus args s
  | .clockSet args => Sys2Proof.Machine.execClockSet args s
  | .clockHold args => Sys2Proof.Machine.execClockHold args s
  | .clockResume args => Sys2Proof.Machine.execClockResume args s
  | .timingRead args => Sys2Proof.Machine.execTimingRead args s
  | .geometrySet args => Sys2Proof.Machine.execGeometrySet args s
  | .geometryRecomputeCompletion => Sys2Proof.Machine.execGeometryRecomputeCompletion s
  | .leadSet args => Sys2Proof.Machine.execLeadSet args s
  | .cueOutputSet args => Sys2Proof.Machine.execCueOutputSet args s
  | .deviceStatus args => Sys2Proof.Machine.execDeviceStatus args s
  | .identify args => Sys2Proof.Machine.execIdentify args s
  | .unknownCommand code args => Sys2Proof.Machine.execUnknownCommand code args s
  | .faultyFrame chars => Sys2Proof.Machine.execFaultyFrame chars s
  | .gatewayGapExpiry => Sys2Proof.Machine.execGatewayGapExpiry s
  | .busyReply chars => Sys2Proof.Machine.execBusyReply chars s
  | .gatewayTxDone => Sys2Proof.Machine.execGatewayTxDone s
  | .channelStepExpiry c => Sys2Proof.Machine.execChannelStepExpiry c s
  | .secondExpiry => Sys2Proof.Machine.execSecondExpiry s
  | .stationReport port chars => Sys2Proof.Machine.execStationReport port chars s
  | .stationFramingFault port char => Sys2Proof.Machine.execStationFramingFault port char s
  | .stationGapExpiry port => Sys2Proof.Machine.execStationGapExpiry port s
  | .lapseExpiry port => Sys2Proof.Machine.execLapseExpiry port s
  | .answerTxDone port => Sys2Proof.Machine.execAnswerTxDone port s
  | .cuePulseExpiry output => Sys2Proof.Machine.execCuePulseExpiry output s
  | .fetch head chars => Sys2Proof.Machine.execFetch head chars s
  | .headFramingFault head char => Sys2Proof.Machine.execHeadFramingFault head char s
  | .headGapExpiry head => Sys2Proof.Machine.execHeadGapExpiry head s
  | .headTxDone head => Sys2Proof.Machine.execHeadTxDone head s

end Sys2Proof.Machine
end

