-- ==== Sys2Proof/Machine/Tick.lean ====
section
/-! DEFINITION. The passing of time while no command waits: one millisecond. DESIGN CHOICE, notes/assumptions/2.md and
notes/assumptions/3.md: the table has no row for the part's clock, so a step with an empty queue stands for one
millisecond. The owner idle times count up (R138) and the millisecond timers run down; a timer that has run out stands
at 0 until its expiry row arrives. -/

namespace Sys2Proof.Machine

/-- A running timer loses one millisecond and stays at 0 when it has run out. -/
def Timer.tick (t : Timer) : Timer := t.map (fun n => n - 1)

/-- The owner idle time counts up while the channel has an owner and holds at 5000 (R138). -/
def Arbitration.tick (a : Arbitration) : Arbitration :=
  if a.owner = none then a else { a with idle := min 5000 (a.idle + 1) }

/-- One millisecond passes. -/
def tick (s : State) : State :=
  { s with
    arbiterA := s.arbiterA.tick
    arbiterB := s.arbiterB.tick
    stations := s.stations.map (fun st => { st with lapse := Timer.tick st.lapse, gap := Timer.tick st.gap })
    cues := { s.cues with outputs := s.cues.outputs.map (fun o => { o with pulse := Timer.tick o.pulse }) }
    clock := { s.clock with secondTimer := Timer.tick s.clock.secondTimer }
    heads := s.heads.map (fun h => { h with gap := Timer.tick h.gap })
    link := { s.link with gap := Timer.tick s.link.gap } }

end Sys2Proof.Machine
end

