-- ==== Sys2Proof/Safety.lean ====
section
/-! DEFINITION. What a safe run of the LK40 keeps: the invariants that the manual states of the whole part, one per
kind of state, in the terms the certificates use. Each is decidable on a concrete state. -/

namespace Sys2Proof.Machine

/-! ## When a frame is received -/

/-- The part has started, its link is IDLE and no frame is in progress: the next frame to end is handled by R166. -/
abbrev Ready (s : State) : Prop :=
  s.started = true ∧ s.link.state = .idle ∧ s.link.rx = .hunting ∧ s.link.gap = none

/-- The part has started, a command is in flight or a frame is being sent, and no frame is in progress: the next frame
to end is handled by R169. -/
abbrev InFlight (s : State) : Prop :=
  s.started = true ∧ s.link.state ≠ .idle ∧ s.link.rx = .hunting ∧ s.link.gap = none

/-- A station port that receives, no frame in progress. -/
abbrev StationReceives (s : State) (p : Fin 4) : Prop :=
  s.started = true ∧ (s.station p).rx = .hunting ∧ (s.station p).gap = none

/-- A head port that receives, no frame in progress. -/
abbrev HeadReceives (s : State) (h : Fin 4) : Prop :=
  s.started = true ∧ (s.head h).rx = .hunting ∧ (s.head h).gap = none

/-- The code and the argument bytes of the frame a row brings, for the rows at which one good gateway frame arrives. -/
def frameOf : Instr → Option (Byte × List Byte)
  | .powerOnReset => none
  | .resetAsserted => none
  | .startUpComplete _ => none
  | .storyNew args => some (0x10, args)
  | .storyMove args => some (0x11, args)
  | .storyFloat args => some (0x12, args)
  | .storyRestore args => some (0x13, args)
  | .storyKill args => some (0x14, args)
  | .storyProps args => some (0x15, args)
  | .storyLock args => some (0x16, args)
  | .storyUnlock args => some (0x17, args)
  | .storySplice args => some (0x18, args)
  | .storyRead args => some (0x19, args)
  | .storyInfo args => some (0x1A, args)
  | .storyCheck args => some (0x1B, args)
  | .storyCheckCompletion => none
  | .orderList args => some (0x20, args)
  | .rundownClear args => some (0x21, args)
  | .rundownClearCompletion => none
  | .cuesRearm args => some (0x22, args)
  | .channelLoad args => some (0x30, args)
  | .channelRun args => some (0x31, args)
  | .channelPark args => some (0x32, args)
  | .channelUnload args => some (0x33, args)
  | .channelTune args => some (0x34, args)
  | .channelStatus args => some (0x35, args)
  | .stationSet args => some (0x40, args)
  | .stationStatus args => some (0x41, args)
  | .headSet args => some (0x48, args)
  | .headStatus args => some (0x49, args)
  | .clockSet args => some (0x50, args)
  | .clockHold args => some (0x51, args)
  | .clockResume args => some (0x52, args)
  | .timingRead args => some (0x53, args)
  | .geometrySet args => some (0x60, args)
  | .geometryRecomputeCompletion => none
  | .leadSet args => some (0x61, args)
  | .cueOutputSet args => some (0x62, args)
  | .deviceStatus args => some (0x63, args)
  | .identify args => some (0x64, args)
  | .unknownCommand code args => some (code, args)
  | .faultyFrame _ => none
  | .gatewayGapExpiry => none
  | .busyReply _ => none
  | .gatewayTxDone => none
  | .channelStepExpiry _ => none
  | .secondExpiry => none
  | .stationReport _ _ => none
  | .stationFramingFault _ _ => none
  | .stationGapExpiry _ => none
  | .lapseExpiry _ => none
  | .answerTxDone _ => none
  | .cuePulseExpiry _ => none
  | .fetch _ _ => none
  | .headFramingFault _ _ => none
  | .headGapExpiry _ => none
  | .headTxDone _ => none

/-- The row at which the frame of a command arrives. -/
def rowOf (c : Command) : Instr :=
  match c with
  | .storyNew _ _ => .storyNew c.args
  | .storyMove _ _ => .storyMove c.args
  | .storyFloat _ => .storyFloat c.args
  | .storyRestore _ => .storyRestore c.args
  | .storyKill _ => .storyKill c.args
  | .storyProps _ _ _ _ => .storyProps c.args
  | .storyLock _ _ => .storyLock c.args
  | .storyUnlock _ => .storyUnlock c.args
  | .storySplice _ _ _ _ => .storySplice c.args
  | .storyRead _ _ _ => .storyRead c.args
  | .storyInfo _ => .storyInfo c.args
  | .storyCheck _ => .storyCheck c.args
  | .orderList _ _ => .orderList c.args
  | .rundownClear => .rundownClear c.args
  | .cuesRearm _ => .cuesRearm c.args
  | .channelLoad _ _ _ => .channelLoad c.args
  | .channelRun _ => .channelRun c.args
  | .channelPark _ => .channelPark c.args
  | .channelUnload _ => .channelUnload c.args
  | .channelTune _ _ => .channelTune c.args
  | .channelStatus _ => .channelStatus c.args
  | .stationSet _ _ => .stationSet c.args
  | .stationStatus _ => .stationStatus c.args
  | .headSet _ _ => .headSet c.args
  | .headStatus _ => .headStatus c.args
  | .clockSet _ => .clockSet c.args
  | .clockHold => .clockHold c.args
  | .clockResume => .clockResume c.args
  | .timingRead => .timingRead c.args
  | .geometrySet _ => .geometrySet c.args
  | .leadSet _ => .leadSet c.args
  | .cueOutputSet _ _ _ _ => .cueOutputSet c.args
  | .deviceStatus => .deviceStatus c.args
  | .identify => .identify c.args

/-- A present value is at most a bound. -/
abbrev OptAtMost (bound : Nat) (x : Option Nat) : Prop := ∀ n ∈ x, n ≤ bound

/-- The values of a command fit the fields that carry them (R167, R176). -/
def Command.fits : Command → Prop
  | .storyNew id anchor => id ≤ 65535 ∧ anchor ≤ 65535
  | .storyMove id anchor => id ≤ 65535 ∧ anchor ≤ 65535
  | .storyFloat id => id ≤ 65535
  | .storyRestore id => id ≤ 65535
  | .storyKill id => id ≤ 65535
  | .storyProps id slug p auto =>
      id ≤ 65535 ∧ (∀ t ∈ slug, t.length ≤ 255) ∧ OptAtMost 65535 p ∧ OptAtMost 255 auto
  | .storyLock id level => id ≤ 65535 ∧ level ≤ 255
  | .storyUnlock id => id ≤ 65535
  | .storySplice id k m new =>
      id ≤ 65535 ∧ k ≤ 255 ∧ m ≤ 255 ∧ new.length ≤ 255 ∧ ∀ l ∈ new, l.text.length ≤ 255
  | .storyRead id first count => id ≤ 65535 ∧ first ≤ 255 ∧ count ≤ 255
  | .storyInfo id => id ≤ 65535
  | .storyCheck id => id ≤ 65535
  | .orderList after count => after ≤ 65535 ∧ count ≤ 255
  | .rundownClear => True
  | .cuesRearm id => id ≤ 65535
  | .channelLoad ch id k => ch ≤ 255 ∧ id ≤ 65535 ∧ k ≤ 255
  | .channelRun ch => ch ≤ 255
  | .channelPark ch => ch ≤ 255
  | .channelUnload ch => ch ≤ 255
  | .channelTune ch f =>
      ch ≤ 255 ∧ OptAtMost 65535 f.vmax ∧ OptAtMost 65535 f.vrev ∧ OptAtMost 255 f.dz ∧ OptAtMost 255 f.curve
        ∧ OptAtMost 255 f.rampUp ∧ OptAtMost 255 f.rampDown ∧ OptAtMost 255 f.jogStep ∧ OptAtMost 255 f.guard
  | .channelStatus ch => ch ≤ 255
  | .stationSet st f =>
      st ≤ 255 ∧ OptAtMost 255 f.role ∧ OptAtMost 255 f.channel ∧ OptAtMost 255 f.rank
        ∧ OptAtMost 65535 f.lapseTime ∧ OptAtMost 65535 f.handOff
  | .stationStatus st => st ≤ 255
  | .headSet h ch => h ≤ 255 ∧ ch ≤ 255
  | .headStatus h => h ≤ 255
  | .clockSet v => -2147483648 ≤ v ∧ v ≤ 2147483647
  | .clockHold => True
  | .clockResume => True
  | .timingRead => True
  | .geometrySet h => h.small ≤ 255 ∧ h.standard ≤ 255 ∧ h.large ≤ 255 ∧ h.spacer ≤ 255 ∧ h.slugBand ≤ 255
  | .leadSet ch => ch ≤ 255
  | .cueOutputSet out action width level =>
      out ≤ 255 ∧ action ≤ 255 ∧ OptAtMost 255 width ∧ OptAtMost 255 level
  | .deviceStatus => True
  | .identify => True

/-! ## What a command may change -/

/-- A channel after an order-change notice in state `t` (R59): END and START clear when a readable story lies beyond
the clamp, T is recomputed when one of them clears, and nothing else of the channel changes. -/
def OrderNoticed (s t : State) (c : ChannelId) : Prop :=
  match (s.channel c).readPoint with
  | none => t.channel c = s.channel c
  | some rp =>
    let newEnd := (s.channel c).endFlag && (t.readableAfter rp.story).isEmpty
    let newStart := (s.channel c).startFlag && (t.readableBefore rp.story).isEmpty
    t.channel c =
      { s.channel c with
        endFlag := newEnd
        startFlag := newStart
        target := if newEnd = (s.channel c).endFlag ∧ newStart = (s.channel c).startFlag then (s.channel c).target
          else targetFor t c }

/-- The distance of a read point from the top of row 0 of its story, in 1/256 row (R75). -/
def Story.distance (st : Story) (h : Heights) (rp : ReadPoint) : Nat := 256 * st.rowOf h rp.k rp.o + rp.frac

/-- S after some step expiries under one target (R71). -/
def rampAfter (t : Tuning) (target : Int) : Nat → Int → Int
  | 0, speed => speed
  | n + 1, speed => rampAfter t target n (ramp t speed target)

/-- A read point within its story (R44). -/
abbrev Story.holds (st : Story) (h : Heights) (rp : ReadPoint) : Prop :=
  rp.story = st.id ∧ rp.k ≤ st.n ∧ rp.o < st.heightAt h rp.k ∧ rp.frac ≤ 255

/-! ## The rundown store -/

/-- R1, R3, R4: at most 128 live stories, no two with one ID, no ID 0, every ID a 16-bit number. -/
abbrev StoriesDistinct (s : State) : Prop :=
  (s.stories.map Story.id).Nodup ∧ s.stories.length ≤ 128 ∧ ∀ st ∈ s.stories, 1 ≤ st.id ∧ st.id ≤ 65535

/-- R11: PT is the sum of P over the live stories that are neither FLOATED nor DOOMED, UNSET as 0. -/
abbrev PlannedTotalExact (s : State) : Prop :=
  s.pt = ((s.stories.filter Story.counted).map Story.seconds).sum

/-- R25: each of the 4096 line records is free or in the line list of one live story. -/
abbrev LinesConserved (s : State) : Prop := s.freeLines + (s.stories.map Story.n).sum = 4096

/-- R22, R24: a line's text has at most 40 characters of the accepted set, and a line without a cue is not fired. -/
abbrev LineBounded (l : Line) : Prop :=
  l.text.length ≤ 40 ∧ (∀ b ∈ l.text, substitute b = b) ∧ (l.cue = 0 → l.fired = false)

/-- Section 1.1, R24: the ranges of a story record. -/
abbrev StoryBounded (st : Story) : Prop :=
  st.slug.length ≤ 16 ∧ (∀ b ∈ st.slug, substitute b = b) ∧ (∀ p ∈ st.p, p ≤ 5999) ∧ st.n ≤ 255
    ∧ st.generation ≤ 255 ∧ ∀ l ∈ st.lines, LineBounded l

/-- Every live story is within its ranges. -/
abbrev StoriesBounded (s : State) : Prop := ∀ st ∈ s.stories, StoryBounded st

/-- R27, R29: the heights lie within their clamps. -/
abbrev HeightsBounded (h : Heights) : Prop := h.clamped = h

/-- R28, R30: every story's G is Hs plus the heights of its lines, and while a geometry recompute is in flight every
story's pending G is the same sum under the pending table. -/
abbrev GeometryExact (s : State) : Prop :=
  HeightsBounded s.heights ∧ (∀ st ∈ s.stories, st.g = geometryOf s.heights st.lines)
    ∧ (∀ h ∈ s.pendingHeights, HeightsBounded h ∧ ∀ st ∈ s.stories, st.pendingG = some (geometryOf h st.lines))
    ∧ (s.pendingHeights = none → ∀ st ∈ s.stories, st.pendingG = none)

/-! ## The scroll channels -/

/-- The story of a channel's read point. -/
def Channel.storyId (ch : Channel) : Option Nat := ch.readPoint.map ReadPoint.story

/-- R5, R9, R44: the open sets hold exactly the channels whose read point lies in the story, the story of a read point
is live, and a channel has a read point exactly when it is not UNLOADED. -/
abbrev OpenSetsExact (s : State) : Prop :=
  ∀ c ∈ [ChannelId.a, ChannelId.b],
    (∀ st ∈ s.stories, st.opens c = true ↔ (s.channel c).storyId = some st.id)
    ∧ (∀ id ∈ (s.channel c).storyId, s.isLive id = true)
    ∧ ((s.channel c).state = .unloaded ↔ (s.channel c).readPoint = none)

/-- R9: a story that is DOOMED has a channel inside it. -/
abbrev DoomedHeld (s : State) : Prop := ∀ st ∈ s.stories, st.air = .doomed → st.openEmpty = false

/-- R44: a read point lies within its story. -/
abbrev ReadPointsInside (s : State) : Prop :=
  ∀ c ∈ [ChannelId.a, ChannelId.b], ∀ rp ∈ (s.channel c).readPoint, ∀ st ∈ s.story? rp.story,
    rp.k ≤ st.n ∧ rp.o < st.heightAt s.heights rp.k ∧ rp.frac ≤ 255

/-- R56 to R59: END stands at the last row of a story with no readable story after it, START at the first row of a
story with no readable story before it. -/
abbrev ClampsAtEdges (s : State) : Prop :=
  ∀ c ∈ [ChannelId.a, ChannelId.b], ∀ rp ∈ (s.channel c).readPoint, ∀ st ∈ s.story? rp.story,
    ((s.channel c).endFlag = true → rp = st.lastPoint s.heights ∧ s.readableAfter st.id = [])
      ∧ ((s.channel c).startFlag = true → rp = ⟨st.id, 0, 0, 0⟩ ∧ s.readableBefore st.id = [])

/-- Section 3.1: the ranges of the tuning. -/
abbrev TuningBounded (t : Tuning) : Prop :=
  16 ≤ t.vmax ∧ t.vmax ≤ 1023 ∧ 16 ≤ t.vrev ∧ t.vrev ≤ 1023 ∧ t.dz ≤ 31 ∧ 1 ≤ t.rampUp ∧ t.rampUp ≤ 64
    ∧ 1 ≤ t.rampDown ∧ t.rampDown ≤ 64 ∧ 1 ≤ t.jogStep ∧ t.jogStep ≤ 64 ∧ t.guard ≤ 15

/-- R43, R70: the tuning is in range, S and T lie within −Vrev..Vmax, and both are 0 when the channel is not LIVE. -/
abbrev ChannelBounded (ch : Channel) : Prop :=
  TuningBounded ch.tuning ∧ -(ch.tuning.vrev : Int) ≤ ch.speed ∧ ch.speed ≤ (ch.tuning.vmax : Int)
    ∧ -(ch.tuning.vrev : Int) ≤ ch.target ∧ ch.target ≤ (ch.tuning.vmax : Int)
    ∧ (ch.state ≠ .live → ch.speed = 0 ∧ ch.target = 0)

/-- Both channels are within their ranges, and so are the deflections the speed law reads. -/
abbrev SpeedsBounded (s : State) : Prop :=
  ChannelBounded s.channelA ∧ ChannelBounded s.channelB
    ∧ ∀ p ∈ ports, ∀ d ∈ (s.station p).held, -127 ≤ d ∧ d ≤ 127

/-! ## The show clock and the cue unit -/

/-- Section 6.1, R97: T_off stays in its range, and the second timer runs exactly while the clock counts. -/
abbrev ClockBounded (s : State) : Prop :=
  -5999 ≤ s.clock.tOff ∧ s.clock.tOff ≤ 35999 ∧ (s.clock.secondTimer.isSome = true ↔ s.clock.state = .counting)

/-- Section 7.1, R112, R117: widths in range, a running pulse holds its line HIGH, the cue count holds at 255. -/
abbrev CuesBounded (s : State) : Prop :=
  s.cues.count ≤ 255 ∧ ∀ o ∈ ports, 10 ≤ (s.output o).width ∧ (s.output o).width ≤ 250
    ∧ ((s.output o).pulse.isSome = true → (s.output o).level = .high)

/-! ## The stations and the arbiter -/

/-- R121, R125, R129: a station is OFF exactly when its role is OFF, its lapse timer runs exactly while it is ACTIVE, an
ACTIVE station has last levels and a held deflection, and a rank is at most 15. -/
abbrev StationConsistent (st : Station) : Prop :=
  (st.state = .off ↔ st.role = .off) ∧ (st.lapse.isSome = true ↔ st.state = .active)
    ∧ (st.state = .active → st.lastLevels.isSome = true ∧ st.held.isSome = true) ∧ st.rank ≤ 15

/-- R122, section 8.1: every station is consistent and the device-wide settings are in range. -/
abbrev StationsConsistent (s : State) : Prop :=
  (∀ p ∈ ports, StationConsistent (s.station p)) ∧ 50 ≤ s.lapseTime ∧ s.lapseTime ≤ 1000 ∧ s.handOff ≤ 5000

/-- R137, R138: the owner and every waiting station are bound to the channel and ACTIVE, the waiting list has no
repeats, never holds the owner, is empty without one, and the idle time holds at 5000 and stands at 0 without an
owner. -/
abbrev OwnershipExact (s : State) : Prop :=
  ∀ c ∈ [ChannelId.a, ChannelId.b],
    (∀ p ∈ (s.arbiter c).owner, (s.station p).channel = c ∧ (s.station p).state = .active)
    ∧ (∀ p ∈ (s.arbiter c).waiting, (s.station p).channel = c ∧ (s.station p).state = .active
        ∧ (s.arbiter c).owner ≠ some p)
    ∧ (s.arbiter c).waiting.Nodup ∧ (s.arbiter c).idle ≤ 5000
    ∧ ((s.arbiter c).owner = none → (s.arbiter c).waiting = [] ∧ (s.arbiter c).idle = 0)

/-! ## The head ports and the gateway link -/

/-- R154, R157, R161: at most two requests and two answers are queued, a request waits only while the answer queue is
full, answers wait only while the transmitter sends, and a detached port holds nothing. -/
abbrev HeadConsistent (h : Head) : Prop :=
  h.requests.length ≤ 2 ∧ h.answers.length ≤ 2 ∧ (h.requests ≠ [] → h.answers.length = 2)
    ∧ (h.sending = none → h.answers = [] ∧ h.waitingPos = none ∧ h.pendingGeom = none)
    ∧ (h.attachment = none → h.requests = [] ∧ h.answers = [] ∧ h.waitingPos = none ∧ h.pendingGeom = none)

/-- Every head port is consistent. -/
abbrev HeadsConsistent (s : State) : Prop := ∀ h ∈ ports, HeadConsistent (s.head h)

/-- A gateway body in progress has a length of 1..250 and is not complete. -/
def GatewayRx.sound : GatewayRx → Bool
  | .body len got => decide (1 ≤ len) && decide (len ≤ 250) && decide (got.length < len + 2)
  | _ => true

/-- R163, R168, R169: the gap timer runs exactly while a frame is in progress, a body in progress has a length of
1..250 and is not complete, and nothing is left in the busy-reply slot of an idle link. -/
abbrev LinkConsistent (s : State) : Prop :=
  (s.link.gap.isSome = true ↔ s.link.rx ≠ .hunting) ∧ (s.link.state = .idle → s.link.slot = none)
    ∧ s.link.rx.sound = true

/-- The link executes a RUNDOWN CLEAR. -/
def LinkState.clearing : LinkState → Bool
  | .executing (.clear _) => true
  | _ => false

/-- R19, R20, R29, R30, R38, R41, R168: the flags of the three operations that take time stand exactly while the link
executes them; both channels are UNLOADED during a clear, and neither is LIVE during a geometry recompute. -/
abbrev OperationsExact (s : State) : Prop :=
  s.clearInProgress = s.link.state.clearing
    ∧ (s.clearInProgress = true → s.channelA.state = .unloaded ∧ s.channelB.state = .unloaded)
    ∧ (s.pendingHeights.isSome = true ↔ s.link.state = .executing .geometry)
    ∧ (s.pendingHeights.isSome = true → s.channelA.state ≠ .live ∧ s.channelB.state ≠ .live)
    ∧ ∀ st ∈ s.stories, st.checkInFlight = true ↔ s.link.state = .executing (.check st.id)

/-! ## What a leave, a departure and a press do

The rules of chapters 1, 3, 4 and 9, written once more from their text, in the terms the certificates use. -/

/-- The air state after a leave: only the lead channel's forward and backward leaves change it (R6, R7, R8). -/
def airLeft (lead : Bool) (kind : LeaveKind) (air : AirState) : AirState :=
  if lead then
    match kind, air with
    | .forward, .standby => .aired
    | .backward, .aired => .standby
    | _, a => a
  else air

/-- The store after channel `c` has left the story `id` (R5 to R11, R26, R41). A forward leave by the lead channel kills
a story that is then AIRED and set to auto-retire. A story that is DOOMED or killed and that no channel is left in is
retired with its lines, a check in flight on it answered GONE; one that is killed while the other channel is inside it
becomes DOOMED. The seconds of a killed story that is not FLOATED leave PT. -/
def State.leftBy (s : State) (c : ChannelId) (kind : LeaveKind) (id : Nat) : State :=
  match s.story? id with
  | none => s
  | some st =>
    let lead := decide (s.cues.lead = c)
    let air := airLeft lead kind st.air
    let killed := lead && decide (kind = .forward) && decide (air = .aired) && st.autoRetire
    let pt := if killed = true ∧ st.floated = false then s.pt - st.p.getD 0 else s.pt
    if (st.setOpen c false).openEmpty = true ∧ (air = .doomed ∨ killed = true) then
      { s with
        stories := s.stories.filter (fun x => x.id != id)
        freeLines := s.freeLines + st.lines.length
        pt := pt
        link := if s.link.state = .executing (.check id) then
            { s.link with state := .answering ⟨.gone, 0x1B, .empty⟩ }
          else s.link }
    else
      { s with
        stories := s.stories.map (fun x =>
          if x.id = id then { x.setOpen c false with air := if killed then .doomed else airLeft lead kind x.air }
          else x)
        pt := pt }

/-- The store after channel `c` has entered the story `id`: the channel joins its open set (R5). -/
def State.enteredBy (s : State) (c : ChannelId) (id : Nat) : State :=
  { s with stories := s.stories.map (fun x => if x.id = id then x.setOpen c true else x) }

/-- The stories, the free lines, PT and the link of `t` are those of `l`. -/
abbrev SameStore (t l : State) : Prop :=
  t.stories = l.stories ∧ t.freeLines = l.freeLines ∧ t.pt = l.pt ∧ t.link = l.link

/-- From `s` to `t` channel `c` has become `ch`, and the other channel is as it was. -/
abbrev ChannelBecomes (c : ChannelId) (ch : Channel) (s t : State) : Prop :=
  t.channel c = ch ∧ ∀ d, d ≠ c → t.channel d = s.channel d

/-- The owner `p` has departed from channel `c`, `loser` being the last-loser from then on (R144, R145, R147, R148): the
hand-back chooses among the waiting stations with the last-loser from before; without a successor the overridden marks
of the stations bound to the channel are cleared. -/
def OwnerDeparts (c : ChannelId) (p : Fin 4) (loser : Option (Fin 4)) (s t : State) : Prop :=
  let a := s.arbiter c
  t.channel c = { s.channel c with ownerChanged := true, target := targetFor t c }
  ∧ match successor s a.lastLoser a.waiting with
    | some q => t.arbiter c = ⟨some q, a.waiting.filter (fun r => decide (r ≠ q)), loser, 0⟩
        ∧ ∀ r, r ≠ p → t.station r = if r = q then { s.station r with overridden := false } else s.station r
    | none => t.arbiter c = ⟨none, [], loser, 0⟩ ∧ (t.channel c).target = 0
        ∧ ∀ r, r ≠ p → t.station r = { s.station r with
            overridden := (s.station r).overridden && decide ((s.station r).channel ≠ c) }

/-- A station that is not the owner has left the waiting list of channel `c`, if it stood in it (R146). -/
def WaiterLeaves (c : ChannelId) (p : Fin 4) (loser : Option (Fin 4)) (s t : State) : Prop :=
  t.channel c = s.channel c
  ∧ t.arbiter c = { s.arbiter c with
      waiting := (s.arbiter c).waiting.filter (fun r => decide (r ≠ p)), lastLoser := loser }
  ∧ ∀ r, r ≠ p → t.station r = s.station r

/-- A PAUSE press toggles the paused flag and recomputes T (R63). -/
def PauseToggles (c : ChannelId) (s t : State) : Prop :=
  ChannelBecomes c { s.channel c with paused := !(s.channel c).paused, target := targetFor t c } s t
  ∧ t = { s with channelA := t.channelA, channelB := t.channelB }

/-- A MARK press records the read point and T_off, and has no effect on an UNLOADED channel (R118). -/
def MarkRecords (c : ChannelId) (s t : State) : Prop :=
  ((s.channel c).state = .unloaded ∨ (s.channel c).readPoint = none → t = s)
  ∧ (∀ rp, (s.channel c).state ≠ .unloaded → (s.channel c).readPoint = some rp →
      ChannelBecomes c { s.channel c with mark := some ⟨rp.story, rp.k, s.clock.tOff⟩, marked := true } s t
        ∧ t = { s with channelA := t.channelA, channelB := t.channelB })

/-- The channel stands at row 0 of another story, at rest (R61, R62). That T stays 0 although END or START is cleared is
the model's reading (notes/assumptions/6.md). -/
def Jumps (c : ChannelId) (kind : LeaveKind) (old new : Nat) (s t : State) : Prop :=
  ChannelBecomes c { s.channel c with
    readPoint := some ⟨new, 0, 0, 0⟩, speed := 0, target := 0, endFlag := false, startFlag := false,
    storyChanged := true } s t
  ∧ SameStore t ((s.leftBy c kind old).enteredBy c new)
  ∧ t = { s with
      stories := t.stories, freeLines := t.freeLines, pt := t.pt, link := t.link, channelA := t.channelA,
      channelB := t.channelB }

/-- A NEXT press jumps to the next readable story, and has no effect when there is none (R61). -/
def NextJumps (c : ChannelId) (s t : State) : Prop :=
  (s.currentStory c = none → t = s)
  ∧ (∀ st, s.currentStory c = some st → s.readableAfter st.id = [] → t = s)
  ∧ (∀ st next rest, s.currentStory c = some st → s.readableAfter st.id = next :: rest →
      Jumps c .forward st.id next s t)

/-- A PREV press goes to row 0 of the story, or from its slug band to the previous readable story, and has no effect when
there is none (R62). -/
def PrevJumps (c : ChannelId) (s t : State) : Prop :=
  ((s.channel c).readPoint = none → t = s)
  ∧ (∀ rp, (s.channel c).readPoint = some rp → 1 ≤ rp.k →
      ChannelBecomes c { s.channel c with
        readPoint := some ⟨rp.story, 0, 0, 0⟩, speed := 0, target := 0, endFlag := false } s t
      ∧ t = { s with channelA := t.channelA, channelB := t.channelB })
  ∧ (∀ rp, (s.channel c).readPoint = some rp → rp.k = 0 → s.readableBefore rp.story = [] → t = s)
  ∧ (∀ rp before rest, (s.channel c).readPoint = some rp → rp.k = 0 → s.readableBefore rp.story = before :: rest →
      Jumps c .backward rp.story before s t)

/-- The lines of a story that a forward jog reaches, row 0 of the story being row `base` of the walk: those whose first
row lies after row `lo` and at or before row `hi` (R82). -/
def Story.reached (st : Story) (h : Heights) (lo hi base : Nat) : List Nat :=
  ((List.range st.n).map (· + 1)).filter
    (fun k => decide (lo < base + st.firstRow h k) && decide (base + st.firstRow h k ≤ hi))

/-- What a forward jog tells the cue unit and the store on its path: the lines of one story, then the leave of that story
and the entry of the next, then the lines of the next (R82). -/
def State.walkedForward (c : ChannelId) (lo hi : Nat) : Nat → List Story → State → State
  | _, [], s => s
  | base, st :: path, s =>
    let told := (st.reached s.heights lo hi base).foldl (fun s k => reportLine c st.id k s) s
    match path with
    | [] => told
    | next :: _ =>
      State.walkedForward c lo hi (base + st.g) path ((told.leftBy c .forward st.id).enteredBy c next.id)

/-- What a backward jog tells the store on its path: the leave of one story and the entry of the next (R81). -/
def State.walkedBackward (c : ChannelId) : List Story → State → State
  | [], s => s
  | st :: path, s =>
    match path with
    | [] => s
    | next :: _ => State.walkedBackward c path ((s.leftBy c .backward st.id).enteredBy c next.id)

/-- A jog that has passed the stories `gone` leaves the channel as `ch` says, with STORY CHANGED set when it has passed
one, the store and the cue unit as the walk `w` says, and everything else as it was. -/
def JogEnds (c : ChannelId) (ch : Channel) (gone : List Story) (w s t : State) : Prop :=
  ChannelBecomes c { ch with storyChanged := ch.storyChanged || decide (gone ≠ []) } s t
  ∧ SameStore t w ∧ t.cues = w.cues
  ∧ t = { s with
      stories := t.stories, freeLines := t.freeLines, pt := t.pt, link := t.link, channelA := t.channelA,
      channelB := t.channelB, cues := t.cues }

/-- A jog of J detents (R64, R80, R81, R82), by the split of its path into the stories passed, the story `x` it ends in
and the rest. It keeps S, and keeps the fraction unless it clamps. That a clamp which moves nothing keeps the other
flag is the model's reading (notes/assumptions/13.md). -/
def JogWalks (c : ChannelId) (j : Int) (s t : State) : Prop :=
  let ch := s.channel c
  let d := j.natAbs * ch.tuning.jogStep
  (j = 0 ∨ s.currentStory c = none ∨ (0 < j ∧ ch.endFlag = true) ∨ (j < 0 ∧ ch.startFlag = true) → t = s)
  ∧ ∀ rp before st after gone x rest, ch.readPoint = some rp → s.stories = before ++ st :: after →
    st.holds s.heights rp → StoriesDistinct s → GeometryExact s → 1 ≤ ch.tuning.jogStep →
    let row := st.rowOf s.heights rp.k rp.o
    (0 < j → ch.endFlag = false → st :: after.filter Story.readable = gone ++ x :: rest →
      let passed := (gone.map Story.g).sum
      let walk := State.walkedForward c row (row + d) 0 (gone ++ [x]) s
      (passed ≤ row + d → row + d < passed + x.g → ∃ rp', x.holds s.heights rp'
        ∧ passed + x.rowOf s.heights rp'.k rp'.o = row + d ∧ rp'.frac = rp.frac
        ∧ JogEnds c { ch with
            readPoint := some rp', startFlag := false,
            target := if ch.startFlag then targetFor t c else ch.target } gone walk s t)
      ∧ (passed + x.g ≤ row + d → rest = [] →
        JogEnds c { ch with
          readPoint := some (x.lastPoint s.heights), endFlag := true, endReached := true,
          startFlag := ch.startFlag && decide (rp = x.lastPoint s.heights), target := targetFor t c } gone walk s t))
    ∧ (j < 0 → ch.startFlag = false → st :: before.reverse.filter Story.readable = gone ++ x :: rest →
      let room := row + (((gone ++ [x]).drop 1).map Story.g).sum
      let walk := State.walkedBackward c (gone ++ [x]) s
      (gone = [] ∨ room < d + x.g) →
      (d ≤ room → ∃ rp', x.holds s.heights rp'
        ∧ x.rowOf s.heights rp'.k rp'.o + d = room ∧ rp'.frac = rp.frac
        ∧ JogEnds c { ch with
            readPoint := some rp', endFlag := false,
            target := if ch.endFlag then targetFor t c else ch.target } gone walk s t)
      ∧ (room < d → rest = [] →
        JogEnds c { ch with
          readPoint := some ⟨x.id, 0, 0, 0⟩, startFlag := true,
          endFlag := ch.endFlag && decide (rp = ⟨x.id, 0, 0, 0⟩), target := targetFor t c } gone walk s t))

/-- The answer to a FETCH of up to `count` records from index `first`, by the story as it stands (R158, R159). -/
def IsAnswer (s : State) (r : Request) (a : FetchAnswer) : Prop :=
  (s.clearInProgress = true → a = .busy r.story r.first)
  ∧ (s.clearInProgress = false → s.isLive r.story = false → a = .gone r.story r.first)
  ∧ (∀ st, s.clearInProgress = false → s.story? r.story = some st →
      ((∃ g, r.generation = some g ∧ g ≠ st.generation) → a = .stale r.story r.first st.generation)
      ∧ ((r.generation = none ∨ r.generation = some st.generation) → st.lines.length < r.first →
          a = .range r.story r.first st.generation st.lines.length)
      ∧ ((r.generation = none ∨ r.generation = some st.generation) → r.first ≤ st.lines.length → ∃ recs,
          a = .lines r.story r.first st.generation st.lines.length recs
            ∧ recs.length = min r.count (st.lines.length - r.first + 1)
            ∧ ∀ i, i < recs.length → recs[i]? = st.recAt (r.first + i)))

/-! ## The invariants that every step keeps -/

/-- The rundown store accounts for every story, second and line. -/
abbrev StoreSound (s : State) : Prop := StoriesDistinct s ∧ PlannedTotalExact s ∧ LinesConserved s

/-- Every record of the store is within its ranges. -/
abbrev RecordsSound (s : State) : Prop := StoriesDistinct s ∧ StoriesBounded s

/-- The open sets, the read points and the channel states agree. -/
abbrev OpenSetsSound (s : State) : Prop :=
  StoriesDistinct s ∧ OpenSetsExact s ∧ DoomedHeld s ∧ OperationsExact s

/-- The geometry agrees with the lines. -/
abbrev GeometrySound (s : State) : Prop := GeometryExact s ∧ OperationsExact s

/-- The read points lie inside their stories and the clamps at their edges. -/
abbrev MotionSound (s : State) : Prop :=
  StoriesDistinct s ∧ OpenSetsExact s ∧ OperationsExact s ∧ GeometryExact s ∧ SpeedsBounded s ∧ ReadPointsInside s
    ∧ ClampsAtEdges s

/-- The stations and the arbitration records agree. -/
abbrev OwnershipSound (s : State) : Prop := StationsConsistent s ∧ OwnershipExact s

/-- The link and the operations in flight agree. -/
abbrev LinkSound (s : State) : Prop := LinkConsistent s ∧ OperationsExact s

/-- The clock and the cue unit are within their ranges. -/
abbrev ShowSound (s : State) : Prop := ClockBounded s ∧ CuesBounded s

end Sys2Proof.Machine
end

