-- ==== Sys2Proof/Certificates/Slice0/Obligations.lean ====
section
/-! DEFINITION. The statements for the provers: what the LK40 does at each command, what it leaves unchanged, and what
every step keeps. A frame is written `t = { s with … }`: the fields named may differ, every other field is as it was.
Every statement whose basis is `derived` names in its docstring the sections of the manual it rests on. -/

open Sys2Proof Sys2Proof.Machine

/-! ## The queue, reset and start-up -/

/-- Section 11.2: the model's own queue (notes/assumptions/2.md): a step runs the command at the front with the
queue's rest. -/
def Obligations.StepRunsTheFrontCommand : Prop :=
  ∀ (s : State) (c : Instr) (rest : List Instr), s.pending = c :: rest → step s = exec c { s with pending := rest }

/-- Sections 9.1, 8.3, 8.2, 10.5, 7.1, 6.1 and 11.1: the model's tick (notes/assumptions/2.md,
notes/assumptions/3.md): with no command waiting one millisecond passes. Owner idle times count up to 5000 while there
is an owner, running millisecond timers run down to 0, and nothing else changes. -/
def Obligations.AnIdleStepPassesOneMillisecond : Prop :=
  ∀ s : State, s.pending = [] → ∃ t, step s = .next t
    ∧ (∀ c, t.arbiter c = { s.arbiter c with
        idle := if (s.arbiter c).owner = none then (s.arbiter c).idle else min 5000 ((s.arbiter c).idle + 1) })
    ∧ (∀ p, t.station p = { s.station p with
        lapse := (s.station p).lapse.map (· - 1), gap := (s.station p).gap.map (· - 1) })
    ∧ (∀ h, t.head h = { s.head h with gap := (s.head h).gap.map (· - 1) })
    ∧ (∀ o, t.output o = { s.output o with pulse := (s.output o).pulse.map (· - 1) })
    ∧ t.clock = { s.clock with secondTimer := s.clock.secondTimer.map (· - 1) }
    ∧ t.link = { s.link with gap := s.link.gap.map (· - 1) }
    ∧ t = { s with
        arbiterA := t.arbiterA, arbiterB := t.arbiterB, stations := t.stations, heads := t.heads,
        cues := { s.cues with outputs := t.cues.outputs }, clock := t.clock, link := t.link }

/-- Sections 1.10, 2.8, 3.8, 6.9, 7.6, 8.6, 9.7, 10.8 and 11.7: power-on reset and the RESET line act alike, and every
block then holds its reset values. That waiting commands go on waiting is the model's (notes/assumptions/2.md). -/
def Obligations.ResetGivesEveryBlockItsResetValues : Prop :=
  ∀ s : State, ∃ t, exec .powerOnReset s = .next t ∧ exec .resetAsserted s = .next t
    ∧ t.stories = [] ∧ t.pt = 0 ∧ t.clearInProgress = false
    ∧ t.freeLines = 4096 ∧ t.heights = ⟨24, 32, 48, 16, 48⟩ ∧ t.pendingHeights = none
    ∧ (∀ c, (t.channel c).state = .unloaded ∧ (t.channel c).readPoint = none ∧ (t.channel c).speed = 0
        ∧ (t.channel c).target = 0 ∧ (t.channel c).tuning = ⟨640, 320, 6, .square, 3, 6, 8, 2⟩
        ∧ (t.channel c).paused = false ∧ (t.channel c).endFlag = false ∧ (t.channel c).startFlag = false
        ∧ (t.channel c).flagsPending = false ∧ (t.channel c).mark = none)
    ∧ (∀ c, t.arbiter c = ⟨none, [], none, 0⟩)
    ∧ t.clock = ⟨0, .stopped, none, false⟩
    ∧ (∀ o, t.output o = ⟨.pulse, 40, .low, none⟩) ∧ t.cues.lead = .a ∧ t.cues.lastCue = 0 ∧ t.cues.count = 0
    ∧ (∀ p, (t.station p).role = .off ∧ (t.station p).channel = .a ∧ (t.station p).rank = p.val
        ∧ (t.station p).state = .off ∧ (t.station p).lastLevels = none ∧ (t.station p).lapse = none
        ∧ (t.station p).errorPending = false ∧ (t.station p).rx = .hunting ∧ (t.station p).sending = none
        ∧ (t.station p).waitingAnswer = none ∧ (t.station p).held = none ∧ (t.station p).takeLatch = false
        ∧ (t.station p).overridden = false)
    ∧ t.lapseTime = 250 ∧ t.handOff = 1000
    ∧ (∀ h, (t.head h).attachment = none ∧ (t.head h).requests = [] ∧ (t.head h).answers = []
        ∧ (t.head h).waitingPos = none ∧ (t.head h).pendingGeom = none ∧ (t.head h).lastKind = .answer
        ∧ (t.head h).overrun = false ∧ (t.head h).sending = none ∧ (t.head h).rx = .hunting)
    ∧ t.link.state = .idle ∧ t.link.slot = none ∧ t.link.rx = .hunting ∧ t.link.gap = none
    ∧ t.attention = false ∧ t.started = false ∧ t.pending = s.pending

/-- Sections 3.8, 8.2, 10.8 and 11.7: until start-up completes every character is discarded; at its end GW_RATE is
sampled, the link receives and the step timers run. That a second START_UP_COMPLETE has no effect is the model's
(notes/assumptions/3.md). -/
def Obligations.StartUpOpensThePorts : Prop :=
  ∀ s : State,
    (s.started = false → ∀ rate, ∃ t, exec (.startUpComplete rate) s = .next t
      ∧ t.started = true ∧ t.link = { s.link with rate := rate }
      ∧ (∀ c, t.channel c = { s.channel c with stepTimer := true })
      ∧ t = { s with started := true, link := t.link, channelA := t.channelA, channelB := t.channelB })
    ∧ (s.started = true → ∀ rate, exec (.startUpComplete rate) s = .next s)
    ∧ (s.started = false → ∀ i code args, frameOf i = some (code, args) → args.length ≤ maxArgs → exec i s = .next s)
    ∧ (s.started = false → ∀ chars, exec (.faultyFrame chars) s = .next s ∧ exec (.busyReply chars) s = .next s)
    ∧ (s.started = false → ∀ p chars c, exec (.stationReport p chars) s = .next s
        ∧ exec (.stationFramingFault p c) s = .next s ∧ exec (.fetch p chars) s = .next s
        ∧ exec (.headFramingFault p c) s = .next s)

/-! ## The gateway link -/

/-- Sections 11.1, 11.2, 11.4, 12.1 and 12.2: the frame of every command of the catalogue, with every operand at every
value its field admits, is received, passes its CRC and its length test, and is dispatched to the block that owns the
command, which takes it with exactly these operands. -/
def Obligations.EveryCommandFrameIsDispatched : Prop :=
  ∀ (cmd : Command) (s : State), cmd.fits → cmd.args.length ≤ maxArgs → Ready s →
    ((catalogue cmd.code).bind (fun read => read cmd.args)) = some cmd
      ∧ frameOf (rowOf cmd) = some (cmd.code, cmd.args)
      ∧ exec (rowOf cmd) s = .next (conclude cmd.code (take cmd s))

/-- Section 11.2: a code outside the catalogue is answered UNKNOWN, arguments that do not fit the command's form
LENGTH, each with the code byte received, and nothing outside the link changes. -/
def Obligations.MisfitFramesAreAnswered : Prop :=
  ∀ (i : Instr) (code : Byte) (args : List Byte) (s : State),
    frameOf i = some (code, args) → args.length ≤ maxArgs → Ready s →
    (i = .unknownCommand code args → code.toNat ∉ catalogueCodes →
        exec (.unknownCommand code args) s = .next (s.respond .unknown code .empty))
      ∧ (code.toNat ∉ catalogueCodes → exec i s = .next (s.respond .unknown code .empty))
      ∧ (code.toNat ∈ catalogueCodes → (∀ cmd : Command, cmd.fits → cmd.code = code → cmd.args ≠ args) →
        exec i s = .next (s.respond .length code .empty))

/-- Sections 11.1 and 11.2: a frame with a wrong CRC, a length byte of 0 or above 250, a missing stop bit or a gap
past its length byte ends as a faulty frame, answered FRAME with code 0 while the link is IDLE; one of which only the
start marker has come is discarded without an answer. That a character with a missing stop bit is not a received
length byte is the model's reading (notes/assumptions/19.md). That a gap expiry outside a frame has no effect is the
model's (notes/assumptions/3.md). -/
def Obligations.FaultyFramesAreAnswered : Prop :=
  ∀ s : State, Ready s →
    (∀ (body : List Byte) (crc : Nat), 1 ≤ body.length → body.length ≤ 250 → crc ≤ 65535 →
        crc ≠ crc16 (u8 body.length :: body) →
        exec (.faultyFrame ((0x7E :: u8 body.length :: (body ++ be16 crc)).map goodChar)) s
          = .next (s.respond .frame 0 .empty))
    ∧ (∀ b : Byte, (b.toNat = 0 ∨ 250 < b.toNat) →
        exec (.faultyFrame [goodChar 0x7E, goodChar b]) s = .next (s.respond .frame 0 .empty))
    ∧ (∀ (len : Byte) (got : List Byte) (b : Byte), 1 ≤ len.toNat → len.toNat ≤ 250 → got.length < len.toNat + 2 →
        exec (.faultyFrame ((0x7E :: len :: got).map goodChar ++ [⟨b, false⟩])) s
          = .next (s.respond .frame 0 .empty))
    ∧ (∀ b : Byte, exec (.faultyFrame [goodChar 0x7E, ⟨b, false⟩]) s = .next s)
    ∧ (∀ (gap : Timer) (len : Nat) (got : List Byte),
        exec .gatewayGapExpiry { s with link := { s.link with rx := .body len got, gap := gap } }
          = .next (s.respond .frame 0 .empty))
    ∧ (∀ gap : Timer, exec .gatewayGapExpiry { s with link := { s.link with rx := .marker, gap := gap } } = .next s)
    ∧ exec .gatewayGapExpiry s = .next s

/-- R164, with the register of R40 bit by bit. -/
def Obligations.AFrameIsGoodExactlyWhenItsCrcFits : Prop :=
  (∀ (len : Nat) (got body : List Byte), len ≤ 250 → got.length = len + 2 →
      (goodBody len got = some body ↔ got = body ++ be16 (crc16 (u8 len :: body)) ∧ body.length = len))
    ∧ (∀ (len : Nat) (got : List Byte), len ≤ 250 → got.length = len + 2 →
      (goodBody len got = none ↔ ∀ body, body.length = len → got ≠ body ++ be16 (crc16 (u8 len :: body))))
    ∧ (∀ bs : List Byte, crc16 bs ≤ 65535 ∧ be16 (crc16 bs) = [u8 (crc16 bs / 256), u8 (crc16 bs % 256)])
    ∧ gatewayFrame 0x00 [] = [0x7E, 0x01, 0x00] ++ be16 (crc16 [0x01, 0x00])
    ∧ crc16 [] = 0xFFFF ∧ crc16 [0] = 0xE1F0
    ∧ (∀ (bs : List Byte) (b : Byte),
        let shift := fun (register i : Nat) =>
          if register / 32768 ≠ b.toNat / 2 ^ i % 2 then (2 * register % 65536) ^^^ 0x1021 else 2 * register % 65536
        crc16 (bs ++ [b]) = [7, 6, 5, 4, 3, 2, 1, 0].foldl shift (crc16 bs))

/-- Section 11.2: a frame that ends while a command is in flight is not executed; it puts a BUSY reply into an empty
slot, with its code when it passed its CRC and 0 when it was faulty, and is discarded when the slot is full. -/
def Obligations.FramesInFlightMeetTheBusySlot : Prop :=
  ∀ s : State, InFlight s →
    (∀ i code args, frameOf i = some (code, args) → args.length ≤ maxArgs →
        exec i s = .next (if s.link.slot = none then { s with link := { s.link with slot := some code } } else s)
          ∧ exec (.busyReply ((gatewayFrame code args).map goodChar)) s = exec i s)
    ∧ (∀ (body : List Byte) (crc : Nat), 1 ≤ body.length → body.length ≤ 250 → crc ≤ 65535 →
        crc ≠ crc16 (u8 body.length :: body) →
        exec (.busyReply ((0x7E :: u8 body.length :: (body ++ be16 crc)).map goodChar)) s
          = .next (if s.link.slot = none then { s with link := { s.link with slot := some 0 } } else s))
    ∧ (∀ (gap : Timer) (len : Nat) (got : List Byte),
        exec .gatewayGapExpiry { s with link := { s.link with rx := .body len got, gap := gap } }
          = .next (if s.link.slot = none then { s with link := { s.link with slot := some 0 } } else s))

/-- Section 11.2: when a response has been sent whole the BUSY reply in the slot follows it; when there is nothing
more to send the link is IDLE, and the slot is emptied when the BUSY reply has been sent whole. That the slot stays
full while the BUSY reply is being sent is the model's reading (notes/assumptions/8.md), and that the row has no
effect when nothing is being sent is the model's (notes/assumptions/3.md). -/
def Obligations.SentFramesFreeTheLink : Prop :=
  ∀ (s : State) (r : Response),
    (s.link.state = .answering r → r.status ≠ .busy → s.link.slot = none →
        exec .gatewayTxDone s = .next { s with link := { s.link with state := .idle } })
    ∧ (∀ code, s.link.state = .answering r → r.status ≠ .busy → s.link.slot = some code →
        exec .gatewayTxDone s = .next (s.respond .busy code .empty))
    ∧ (s.link.state = .answering r → r.status = .busy →
        exec .gatewayTxDone s = .next { s with link := { s.link with state := .idle, slot := none } })
    ∧ ((∀ q, s.link.state ≠ .answering q) → exec .gatewayTxDone s = .next s)

/-- Sections 11.2 and 11.3: every gateway frame that a ready part receives is answered at once with one response that
echoes its code, or, for STORY CHECK, RUNDOWN CLEAR and GEOMETRY SET alone, leaves its command executing; a response
that is not OK carries no payload and leaves every block as it was. Argument bytes that fit no frame are refused by
the model under the name noSuchFrame (notes/assumptions/4.md). -/
def Obligations.EveryFrameHasOneEnding : Prop :=
  ∀ (i : Instr) (code : Byte) (args : List Byte) (s : State), frameOf i = some (code, args) → Ready s →
    (maxArgs < args.length → exec i s = .refused .noSuchFrame)
    ∧ (args.length ≤ maxArgs → ∃ t, exec i s = .next t
      ∧ t.link.slot = s.link.slot ∧ t.link.rx = .hunting ∧ t.link.gap = none ∧ t.link.rate = s.link.rate
      ∧ ((∃ r, t.link.state = .answering r ∧ r.echo = code
            ∧ (r.status ≠ .ok → r.payload = .empty ∧ t = { s with link := t.link }))
          ∨ (∃ op, t.link.state = .executing op ∧ code.toNat ∈ [0x1B, 0x21, 0x60])))

/-! ## The rundown store -/

/-- Sections 1.1, 1.2, 1.7 and 3.5: STORY NEW. -/
def Obligations.StoryNewInsertsAStory : Prop :=
  ∀ (id anchor : Nat) (s : State), id ≤ 65535 → anchor ≤ 65535 → Ready s →
    let run := exec (.storyNew (be16 id ++ be16 anchor)) s
    let fresh : Story :=
      { id := id, air := .standby, floated := false, lock := .none, autoRetire := false, openA := false,
        openB := false, slug := [], p := none, lines := [], g := s.heights.slugBand, generation := 0,
        checkInFlight := false, pendingG := none }
    (id = 0 → run = .next (s.respond .argument 0x10 .empty))
    ∧ (id ≠ 0 → s.isLive id = true → run = .next (s.respond .duplicate 0x10 .empty))
    ∧ (id ≠ 0 → s.isLive id = false → anchor ≠ 0 → s.isLive anchor = false →
        run = .next (s.respond .notFound 0x10 .empty))
    ∧ (id ≠ 0 → s.isLive id = false → (anchor = 0 ∨ s.isLive anchor = true) → 128 ≤ s.stories.length →
        run = .next (s.respond .tableFull 0x10 .empty))
    ∧ (id ≠ 0 → s.isLive id = false → (anchor = 0 ∨ s.isLive anchor = true) → s.stories.length < 128 →
        ∃ t, run = .next t
          ∧ t.link = { s.link with state := .answering ⟨.ok, 0x10, .liveCount (s.stories.length + 1)⟩ }
          ∧ (∃ before after, s.stories = before ++ after
              ∧ (anchor = 0 → before = []) ∧ (anchor ≠ 0 → before.getLast?.map Story.id = some anchor)
              ∧ t.stories = before ++ fresh :: after)
          ∧ (∀ c, OrderNoticed s t c)
          ∧ t = { s with
              stories := t.stories, link := t.link, channelA := t.channelA, channelB := t.channelB })

/-- Sections 1.2, 1.7 and 3.5: STORY MOVE moves the record unchanged and sends the order-change notice. -/
def Obligations.StoryMoveReordersTheRundown : Prop :=
  ∀ (id anchor : Nat) (s : State), id ≤ 65535 → anchor ≤ 65535 → Ready s →
    let run := exec (.storyMove (be16 id ++ be16 anchor)) s
    (s.isLive id = false → run = .next (s.respond .notFound 0x11 .empty))
    ∧ (s.isLive id = true → anchor = id → run = .next (s.respond .argument 0x11 .empty))
    ∧ (s.isLive id = true → anchor ≠ id → anchor ≠ 0 → s.isLive anchor = false →
        run = .next (s.respond .notFound 0x11 .empty))
    ∧ (∀ st, s.story? id = some st → anchor ≠ id → (anchor = 0 ∨ s.isLive anchor = true) →
        ∃ t, run = .next t
          ∧ t.link = { s.link with state := .answering ⟨.ok, 0x11, .empty⟩ }
          ∧ (∃ before after, s.stories.filter (fun x => x.id != id) = before ++ after
              ∧ (anchor = 0 → before = []) ∧ (anchor ≠ 0 → before.getLast?.map Story.id = some anchor)
              ∧ t.stories = before ++ st :: after)
          ∧ (∀ c, OrderNoticed s t c)
          ∧ t = { s with
              stories := t.stories, link := t.link, channelA := t.channelA, channelB := t.channelB })

/-- Sections 1.5, 1.6 and 3.5: STORY FLOAT and STORY RESTORE. -/
def Obligations.FloatAndRestoreMoveTheSecondsOfAStory : Prop :=
  ∀ (id : Nat) (s : State), id ≤ 65535 → Ready s →
    (s.isLive id = false → exec (.storyFloat (be16 id)) s = .next (s.respond .notFound 0x12 .empty)
        ∧ exec (.storyRestore (be16 id)) s = .next (s.respond .notFound 0x13 .empty))
    ∧ (∀ st, s.story? id = some st → st.air = .doomed →
        exec (.storyFloat (be16 id)) s = .next (s.respond .state 0x12 .empty)
          ∧ exec (.storyRestore (be16 id)) s = .next (s.respond .state 0x13 .empty))
    ∧ (∀ st, s.story? id = some st → st.air ≠ .doomed → st.floated = true →
        exec (.storyFloat (be16 id)) s = .next (s.respond .ok 0x12 (.floated true))
          ∧ ∃ t, exec (.storyRestore (be16 id)) s = .next t
            ∧ t.link = { s.link with state := .answering ⟨.ok, 0x13, .floated false⟩ }
            ∧ t.stories = s.stories.map (fun x => if x.id = id then { x with floated := false } else x)
            ∧ t.pt = s.pt + st.p.getD 0 ∧ (∀ c, OrderNoticed s t c)
            ∧ t = { s with
                stories := t.stories, pt := t.pt, link := t.link, channelA := t.channelA, channelB := t.channelB })
    ∧ (∀ st, s.story? id = some st → st.air ≠ .doomed → st.floated = false →
        exec (.storyRestore (be16 id)) s = .next (s.respond .ok 0x13 (.floated false))
          ∧ ∃ t, exec (.storyFloat (be16 id)) s = .next t
            ∧ t.link = { s.link with state := .answering ⟨.ok, 0x12, .floated true⟩ }
            ∧ t.stories = s.stories.map (fun x => if x.id = id then { x with floated := true } else x)
            ∧ t.pt = s.pt - st.p.getD 0
            ∧ t = { s with stories := t.stories, pt := t.pt, link := t.link })

/-- Sections 1.4, 1.5 and 2.2: STORY KILL retires a story that no channel is inside, with its lines and its seconds,
and defers the retirement of a story that is being read. -/
def Obligations.StoryKillFollowsTheOpenSet : Prop :=
  ∀ (id : Nat) (s : State), id ≤ 65535 → Ready s →
    let run := exec (.storyKill (be16 id)) s
    (s.isLive id = false → run = .next (s.respond .notFound 0x14 .empty))
    ∧ (∀ st, s.story? id = some st → st.openA = false → st.openB = false → ∃ t, run = .next t
        ∧ t.link = { s.link with state := .answering ⟨.ok, 0x14, .kill .retired⟩ }
        ∧ t.stories = s.stories.filter (fun x => x.id != id) ∧ t.isLive id = false
        ∧ t.freeLines = s.freeLines + st.lines.length
        ∧ t.pt = (if st.floated = true ∨ st.air = .doomed then s.pt else s.pt - st.p.getD 0)
        ∧ t = { s with stories := t.stories, freeLines := t.freeLines, pt := t.pt, link := t.link })
    ∧ (∀ st, s.story? id = some st → (st.openA = true ∨ st.openB = true) → st.air ≠ .doomed → ∃ t, run = .next t
        ∧ t.link = { s.link with state := .answering ⟨.ok, 0x14, .kill .deferred⟩ }
        ∧ t.stories = s.stories.map (fun x => if x.id = id then { x with air := .doomed } else x)
        ∧ t.pt = (if st.floated = true then s.pt else s.pt - st.p.getD 0)
        ∧ t = { s with stories := t.stories, pt := t.pt, link := t.link })
    ∧ (∀ st, s.story? id = some st → (st.openA = true ∨ st.openB = true) → st.air = .doomed →
        run = .next (s.respond .ok 0x14 (.kill .deferred)))

/-- Sections 1.5, 1.7, 2.1 and 12.1: STORY PROPS. What an auto-retire byte other than 0 and 1 does is the model's free
value (notes/assumptions/5.md): it is clamped to 1 or refused ARGUMENT. -/
def Obligations.StoryPropsWritesThePresentFields : Prop :=
  ∀ (id : Nat) (slug : Option (List Byte)) (p auto : Option Nat) (s : State),
    (Command.storyProps id slug p auto).fits → (Command.storyProps id slug p auto).args.length ≤ maxArgs → Ready s →
    let run := exec (.storyProps (Command.storyProps id slug p auto).args) s
    let badArgument := (slug = none ∧ p = none ∧ auto = none) ∨ (∃ x, slug = some x ∧ 16 < x.length)
      ∨ (∃ a, auto = some a ∧ toAutoRetire a = none)
    (s.isLive id = false → run = .next (s.respond .notFound 0x15 .empty))
    ∧ (s.isLive id = true → badArgument → run = .next (s.respond .argument 0x15 .empty))
    ∧ (∀ st, s.story? id = some st → ¬badArgument → st.air = .doomed →
        run = .next (s.respond .state 0x15 .empty))
    ∧ (∀ st, s.story? id = some st → ¬badArgument → st.air ≠ .doomed → slug ≠ none → st.lock ≠ .none →
        run = .next (s.respond .locked 0x15 .empty))
    ∧ (∀ st, s.story? id = some st → ¬badArgument → st.air ≠ .doomed → (slug = none ∨ st.lock = .none) →
        ∃ t st', run = .next t
          ∧ st' = { st with
              slug := st'.slug, p := st'.p, autoRetire := st'.autoRetire, generation := (st.generation + 1) % 256 }
          ∧ (slug = none → st'.slug = st.slug)
          ∧ (∀ x, slug = some x → st'.slug = x.map substitute)
          ∧ (p = none → st'.p = st.p) ∧ (p = some 65535 → st'.p = none)
          ∧ (∀ n, p = some n → n ≠ 65535 → st'.p = some (min n 5999))
          ∧ (auto = none → st'.autoRetire = st.autoRetire)
          ∧ (auto = some 0 → st'.autoRetire = false) ∧ (∀ n, auto = some n → 1 ≤ n → st'.autoRetire = true)
          ∧ t.stories = s.stories.map (fun x => if x.id = id then st' else x)
          ∧ t.pt = (if st.floated = true then s.pt else s.pt - st.p.getD 0 + st'.p.getD 0)
          ∧ t.link = { s.link with state := .answering ⟨.ok, 0x15, .props st'.p
              ((slug.getD []).countP isSubstituted) st'.generation⟩ }
          ∧ t = { s with stories := t.stories, pt := t.pt, link := t.link })

/-- Sections 1.6 and 12.3: STORY LOCK and STORY UNLOCK, taken in every air state; a level is encoded 1 for EDITOR and
2 for FINAL. That NOT_FOUND is tested before ARGUMENT is the model's (notes/assumptions/7.md). -/
def Obligations.LocksRiseAndAnEditorLockOpens : Prop :=
  ∀ (id level : Nat) (s : State), id ≤ 65535 → level ≤ 255 → Ready s →
    let lock := exec (.storyLock (be16 id ++ [u8 level])) s
    let unlock := exec (.storyUnlock (be16 id)) s
    let withLock : Lock → State := fun l =>
      { s with stories := s.stories.map (fun x => if x.id = id then { x with lock := l } else x) }
    (s.isLive id = false → lock = .next (s.respond .notFound 0x16 .empty)
        ∧ unlock = .next (s.respond .notFound 0x17 .empty))
    ∧ (s.isLive id = true → (level = 0 ∨ 3 ≤ level) → lock = .next (s.respond .argument 0x16 .empty))
    ∧ (∀ st, s.story? id = some st → level = 1 →
        lock = if st.lock = .final then .next (s.respond .argument 0x16 .empty)
          else .next ((withLock .editor).respond .ok 0x16 (.lock .editor)))
    ∧ (∀ st, s.story? id = some st → level = 2 →
        lock = .next ((withLock .final).respond .ok 0x16 (.lock .final)))
    ∧ (∀ st, s.story? id = some st →
        unlock = if st.lock = .final then .next (s.respond .locked 0x17 .empty)
          else .next ((withLock .none).respond .ok 0x17 (.lock .none)))

/-- R18 and R36, with STORY INFO (section 1.8): the reading commands of the store answer from the state as it stands and
change no state but the link's. -/
def Obligations.StoreReadsAnswerAndChangeNothing : Prop :=
  ∀ (id first count : Nat) (s : State), id ≤ 65535 → first ≤ 255 → count ≤ 255 → Ready s →
    (s.isLive id = false → exec (.storyInfo (be16 id)) s = .next (s.respond .notFound 0x1A .empty)
        ∧ exec (.storyRead (be16 id ++ [u8 first, u8 count])) s = .next (s.respond .notFound 0x19 .empty)
        ∧ (id ≠ 0 → exec (.orderList (be16 id ++ [u8 count])) s = .next (s.respond .notFound 0x20 .empty)))
    ∧ (∀ st, s.story? id = some st → ∃ r : StoryReport,
        exec (.storyInfo (be16 id)) s = .next (s.respond .ok 0x1A (.info r))
          ∧ r = { id := id, air := st.air, floated := st.floated, autoRetire := st.autoRetire,
                  checking := st.checkInFlight, lock := st.lock, openA := st.openA, openB := st.openB, p := st.p,
                  n := st.lines.length, g := st.g, generation := st.generation, position := r.position,
                  slug := st.slug }
          ∧ 1 ≤ r.position ∧ s.stories[r.position - 1]? = some st)
    ∧ (∀ st, s.story? id = some st → st.lines.length < first →
        exec (.storyRead (be16 id ++ [u8 first, u8 count])) s = .next (s.respond .argument 0x19 .empty))
    ∧ (∀ st, s.story? id = some st → first ≤ st.lines.length → ∃ recs : List Rec,
        exec (.storyRead (be16 id ++ [u8 first, u8 count])) s
            = .next (s.respond .ok 0x19 (.lines id st.generation st.lines.length first recs))
          ∧ recs.length = min (max 1 (min 8 count)) (st.lines.length - first + 1)
          ∧ ∀ i, i < recs.length →
              (first + i = 0 → recs[i]? = some (.slug st.slug))
                ∧ (∀ l, 1 ≤ first + i → st.lines[first + i - 1]? = some l → recs[i]? = some (.line l)))
    ∧ (∀ before after : List Story, s.stories = before ++ after →
        ((id = 0 ∧ before = [])
          ∨ (id ≠ 0 ∧ ∃ pre x, before = pre ++ [x] ∧ x.id = id ∧ ∀ y ∈ pre, y.id ≠ id)) →
        exec (.orderList (be16 id ++ [u8 count])) s
          = .next (s.respond .ok 0x20 (.order (decide (max 1 (min 32 count) < after.length))
              ((after.take (max 1 (min 32 count))).map (fun x => ⟨x.id, x.air, x.floated⟩)))))

/-- Sections 1.9, 1.3, 1.4, 3.2, 7.5 and 7.6: RUNDOWN CLEAR unloads both channels when it is taken; at its completion
every story is gone, every line is free, PT, the mark records and the cue record are cleared, and the response counts
the stories that were live. That the stories leave the model at the completion and not one by one, and that the MARKED
flags stay set, are the model's readings (notes/assumptions/9.md), and the row without effect when no clear is in
flight is the model's (notes/assumptions/3.md). -/
def Obligations.RundownClearEmptiesTheRundown : Prop :=
  (∀ s : State, Ready s → ∃ t, exec (.rundownClear []) s = .next t
      ∧ t.clearInProgress = true ∧ t.link = { s.link with state := .executing (.clear s.stories.length) }
      ∧ (∀ c, (s.channel c).state = .unloaded → t.channel c = s.channel c)
      ∧ (∀ c, (s.channel c).state ≠ .unloaded → t.channel c = { s.channel c with
          state := .unloaded, readPoint := none, speed := 0, target := 0, endFlag := false, startFlag := false,
          paused := false,
          storyChanged := (s.channel c).storyChanged || (s.channel c).readPoint.isSome })
      ∧ (let left := fun (c : ChannelId) (l : State) =>
          if (s.channel c).state = .unloaded then l
          else match (s.channel c).readPoint with
            | some rp => l.leftBy c .neutral rp.story
            | none => l
        t.stories = (left .b (left .a s)).stories ∧ t.freeLines = (left .b (left .a s)).freeLines ∧ t.pt = s.pt)
      ∧ t = { s with
          clearInProgress := true, stories := t.stories, freeLines := t.freeLines, pt := t.pt, link := t.link,
          channelA := t.channelA, channelB := t.channelB })
  ∧ (∀ (s : State) (n : Nat), s.link.state = .executing (.clear n) → ∃ t,
      exec .rundownClearCompletion s = .next t
        ∧ t.stories = [] ∧ t.pt = 0 ∧ t.clearInProgress = false
        ∧ t.freeLines = s.freeLines + (s.stories.map (fun st => st.lines.length)).sum
        ∧ (∀ c, t.channel c = { s.channel c with mark := none })
        ∧ t.cues = { s.cues with lastCue := 0, count := 0 }
        ∧ t.link = { s.link with state := .answering ⟨.ok, 0x21, .storyCount n⟩ }
        ∧ t = { s with
            stories := [], pt := 0, clearInProgress := false, freeLines := t.freeLines, channelA := t.channelA,
            channelB := t.channelB, cues := t.cues, link := t.link })
  ∧ (∀ s : State, (∀ n, s.link.state ≠ .executing (.clear n)) → exec .rundownClearCompletion s = .next s)

/-! ## The line pool -/

/-- Sections 2.5, 2.1, 2.3, 3.1, 5.2, 5.3 and 3.5: an accepted STORY SPLICE replaces lines k..k+m−1 by the new lines,
keeps the others with their fired flags, corrects n, G, the generation and the free count, and anchors the read points
inside the story; with the character codes that are stored as the glyph and counted, and the heights and rows of
lines. -/
def Obligations.StorySpliceReplacesTheLines : Prop :=
  (∀ (id k m : Nat) (new : List RawLine) (ls : List Line) (st : Story) (s : State),
      (Command.storySplice id k m new).fits → (Command.storySplice id k m new).args.length ≤ maxArgs → Ready s →
      s.story? id = some st → spliceArgsOk st.n k m new.length = true → newLines new = some ls →
      st.air ≠ .doomed → st.lock = .none → st.n + new.length ≤ 255 + m → new.length ≤ s.freeLines + m →
      guardForbids s .a st k m = false → guardForbids s .b st k m = false →
      ∃ t st', exec (.storySplice (Command.storySplice id k m new).args) s = .next t
        ∧ st' = { st with lines := st'.lines, g := st'.g, generation := (st.generation + 1) % 256 }
        ∧ st'.lines = st.lines.take (k - 1) ++ ls ++ st.lines.drop (k - 1 + m)
        ∧ st'.lines.length + m = st.lines.length + new.length
        ∧ st'.g = st.g - linesHeight s.heights ((st.lines.drop (k - 1)).take m) + linesHeight s.heights ls
        ∧ (∀ (i : Nat) (r : RawLine) (l : Line), new[i]? = some r → ls[i]? = some l →
            l.text = r.text.map substitute ∧ l.fired = false ∧ l.cue.val = r.attr.toNat % 8
              ∧ (l.kind = .direction ↔ r.attr.getLsbD 7 = true)
              ∧ l.cls = (match r.attr.toNat / 32 % 4 with
                | 0 => .small | 1 => .standard | 2 => .large | _ => .spacer))
        ∧ t.stories = s.stories.map (fun x => if x.id = id then st' else x)
        ∧ t.freeLines + new.length = s.freeLines + m
        ∧ t.link = { s.link with state := .answering ⟨.ok, 0x18, .splice st'.lines.length st'.g st'.generation
            ((new.map (fun l => l.text.countP isSubstituted)).sum)⟩ }
        ∧ (∀ c, (∀ rp, (s.channel c).readPoint = some rp → ¬(rp.story = id ∧ st.opens c = true)) →
            t.channel c = s.channel c)
        ∧ (∀ c rp, (s.channel c).readPoint = some rp → rp.story = id → st.opens c = true →
            (t.channel c).readPoint = some (if rp.k < k then rp
              else if m = 0 ∨ k + m ≤ rp.k then ⟨id, rp.k + new.length - m, rp.o, rp.frac⟩
              else ⟨id, min k st'.lines.length, 0, 0⟩)
            ∧ (t.channel c).endFlag = ((s.channel c).endFlag
                && decide ((t.channel c).readPoint = some (st'.lastPoint s.heights)))
            ∧ t.channel c = { s.channel c with
                readPoint := (t.channel c).readPoint
                endFlag := (t.channel c).endFlag
                target := if (t.channel c).endFlag = (s.channel c).endFlag then (s.channel c).target
                  else targetFor t c })
        ∧ t = { s with
            stories := t.stories, freeLines := t.freeLines, link := t.link, channelA := t.channelA,
            channelB := t.channelB })
  ∧ (∀ b : Byte,
      let accepted := (0x20 ≤ b.toNat ∧ b.toNat ≤ 0x7E) ∨ b.toNat = 0x7F ∨ 0xA0 ≤ b.toNat
      (accepted → substitute b = b ∧ isSubstituted b = false)
      ∧ (¬accepted → substitute b = 0x7F ∧ isSubstituted b = true))
  ∧ (∀ (h : Heights) (st : Story),
      let height := fun (l : Line) => match l.cls with
        | .small => h.small | .standard => h.standard | .large => h.large | .spacer => h.spacer
      (∀ ls : List Line, linesHeight h ls = (ls.map height).sum
        ∧ geometryOf h ls = h.slugBand + (ls.map height).sum)
      ∧ st.heightAt h 0 = h.slugBand
      ∧ (∀ k l, 1 ≤ k → st.lines[k - 1]? = some l → st.heightAt h k = height l)
      ∧ (∀ o, st.rowOf h 0 o = o)
      ∧ (∀ k o, 1 ≤ k → st.firstRow h k = h.slugBand + ((st.lines.take (k - 1)).map height).sum
        ∧ st.rowOf h k o = st.firstRow h k + o)
      ∧ st.lastPoint h = ⟨st.id, st.lines.length, st.heightAt h st.lines.length - 1, 255⟩)

/-- Sections 2.5 and 5.1: the checks of STORY SPLICE in their order; each refusal changes nothing but the link. -/
def Obligations.StorySpliceChecksInOrder : Prop :=
  ∀ (id k m : Nat) (new : List RawLine) (s : State),
    (Command.storySplice id k m new).fits → (Command.storySplice id k m new).args.length ≤ maxArgs → Ready s →
    let run := exec (.storySplice (Command.storySplice id k m new).args) s
    let refused := fun (status : Status) => run = .next (s.respond status 0x18 .empty)
    let badLine := fun (l : RawLine) => 40 < l.text.length ∨ l.attr.getLsbD 4 = true ∨ l.attr.getLsbD 3 = true
      ∨ 4 < l.attr.toNat % 8
    let badArgument := fun (st : Story) => k = 0 ∨ st.lines.length + 1 < k
      ∨ (0 < m ∧ st.lines.length + 1 < k + m) ∨ 8 < new.length ∨ (m = 0 ∧ new = []) ∨ (∃ l ∈ new, badLine l)
    let meets := fun (c : ChannelId) (st : Story) => ∃ rp, (s.channel c).readPoint = some rp ∧ st.opens c = true
      ∧ rp.story = st.id ∧ (s.channel c).state = .live
      ∧ ((m = 0 ∧ rp.k ≤ k ∧ k + 1 ≤ rp.k + (s.channel c).tuning.guard)
        ∨ ∃ x, k ≤ x ∧ x < k + m ∧ rp.k ≤ x ∧ x < rp.k + (s.channel c).tuning.guard)
    (s.isLive id = false → refused .notFound)
    ∧ ∀ st, s.story? id = some st →
        (badArgument st → refused .argument)
        ∧ (¬badArgument st → st.air = .doomed → refused .state)
        ∧ (¬badArgument st → st.air ≠ .doomed → st.lock ≠ .none → refused .locked)
        ∧ (¬badArgument st → st.air ≠ .doomed → st.lock = .none → 255 + m < st.lines.length + new.length →
            refused .lineLimit)
        ∧ (¬badArgument st → st.air ≠ .doomed → st.lock = .none → st.lines.length + new.length ≤ 255 + m →
            s.freeLines + m < new.length → refused .poolEmpty)
        ∧ (¬badArgument st → st.air ≠ .doomed → st.lock = .none → st.lines.length + new.length ≤ 255 + m →
            new.length ≤ s.freeLines + m → (∃ c, meets c st) → refused .onAir)

/-- Sections 2.7 and 12.2: STORY CHECK executes until its completion, which answers the CRC of the slug and the lines;
a retirement of the story ends it with GONE. That the completion row has no effect when no check is in flight is the
model's (notes/assumptions/3.md). -/
def Obligations.StoryCheckAnswersTheCrc : Prop :=
  ∀ (id : Nat) (s : State), id ≤ 65535 →
    (Ready s → s.isLive id = false → exec (.storyCheck (be16 id)) s = .next (s.respond .notFound 0x1B .empty))
    ∧ (Ready s → s.isLive id = true → exec (.storyCheck (be16 id)) s = .next
        { s with
          stories := s.stories.map (fun x => if x.id = id then { x with checkInFlight := true } else x)
          link := { s.link with state := .executing (.check id) } })
    ∧ (∀ st, s.link.state = .executing (.check id) → s.story? id = some st →
        exec .storyCheckCompletion s = .next
          { s with
            stories := s.stories.map (fun x => if x.id = id then { x with checkInFlight := false } else x)
            link := { s.link with state := .answering ⟨.ok, 0x1B,
              .check (crc16 (u8 st.slug.length :: st.slug
                  ++ st.lines.flatMap (fun l =>
                      u8 (l.kind.code * 128 + l.cls.code * 32 + l.cue.val) :: u8 l.text.length :: l.text)))
                st.lines.length st.generation⟩ } })
    ∧ (∀ st, s.link.state = .executing (.check id) → s.story? id = some st →
        (retire id s).link = { s.link with state := .answering ⟨.gone, 0x1B, .empty⟩ })
    ∧ ((∀ x, s.link.state ≠ .executing (.check x)) → exec .storyCheckCompletion s = .next s)

/-- Sections 2.4 and 10.4: GEOMETRY SET is refused while a channel is LIVE; taken, it holds the clamped table and each
story's new G as pending, which its completion puts in effect together with the read points of the PARKED channels and
a GEOMETRY frame at every attached head, pending behind a frame in transmission and started by an idle transmitter.
That the completion row has no effect when no recompute is in flight is the model's (notes/assumptions/3.md). -/
def Obligations.GeometryChangesAtItsCompletion : Prop :=
  (∀ (h : Heights) (s : State), (Command.geometrySet h).fits → Ready s →
      ((s.channelA.state = .live ∨ s.channelB.state = .live) →
        exec (.geometrySet h.bytes) s = .next (s.respond .onAir 0x60 .empty))
      ∧ (s.channelA.state ≠ .live → s.channelB.state ≠ .live →
        let h' : Heights := ⟨max 8 (min 96 h.small), max 8 (min 96 h.standard), max 8 (min 96 h.large),
          max 8 (min 96 h.spacer), max 16 (min 96 h.slugBand)⟩
        exec (.geometrySet h.bytes) s = .next
          { s with
            pendingHeights := some h'
            stories := s.stories.map (fun st => { st with pendingG := some (geometryOf h' st.lines) })
            link := { s.link with state := .executing .geometry } }))
  ∧ (∀ (h : Heights) (s : State), s.link.state = .executing .geometry → s.pendingHeights = some h →
      ∃ t, exec .geometryRecomputeCompletion s = .next t
        ∧ t.heights = h ∧ t.pendingHeights = none
        ∧ t.stories = s.stories.map (fun st => { st with g := st.pendingG.getD st.g, pendingG := none })
        ∧ (∀ c, (s.channel c).state ≠ .parked ∨ s.currentStory c = none → t.channel c = s.channel c)
        ∧ (∀ c rp st, (s.channel c).state = .parked → (s.channel c).readPoint = some rp → s.story? rp.story = some st →
            t.channel c = { s.channel c with
              readPoint := some (if (s.channel c).endFlag then ⟨st.id, st.n, st.heightAt h st.n - 1, 255⟩
                else if st.heightAt h rp.k ≤ rp.o then ⟨rp.story, rp.k, st.heightAt h rp.k - 1, 0⟩ else rp) })
        ∧ (∀ x, (s.head x).attachment = none → t.head x = s.head x)
        ∧ (∀ x, (s.head x).attachment ≠ none → HeadConsistent (s.head x) → (s.head x).sending ≠ none →
            t.head x = { s.head x with waitingPos := none, pendingGeom := some h })
        ∧ (∀ x, (s.head x).attachment ≠ none → HeadConsistent (s.head x) → (s.head x).sending = none →
            t.head x = { s.head x with sending := some (.geometry h), lastKind := .position })
        ∧ t.link = { s.link with state := .answering ⟨.ok, 0x60, .heights h⟩ }
        ∧ t = { s with
            heights := h, pendingHeights := none, stories := t.stories, channelA := t.channelA,
            channelB := t.channelB, heads := t.heads, link := t.link })
  ∧ (∀ s : State, s.link.state ≠ .executing .geometry → exec .geometryRecomputeCompletion s = .next s)

/-- Section 7.3: CUES REARM clears the fired flags of one story and counts those that were set. -/
def Obligations.CuesRearmClearsTheFiredFlags : Prop :=
  ∀ (id : Nat) (s : State), id ≤ 65535 → Ready s →
    (s.isLive id = false → exec (.cuesRearm (be16 id)) s = .next (s.respond .notFound 0x22 .empty))
    ∧ (∀ st, s.story? id = some st → ∃ t, exec (.cuesRearm (be16 id)) s = .next t
        ∧ t.link = { s.link with state := .answering ⟨.ok, 0x22, .rearmed ((st.lines.filter Line.fired).length)⟩ }
        ∧ t.stories = s.stories.map (fun x =>
            if x.id = id then { x with lines := x.lines.map (fun l => { l with fired := false }) } else x)
        ∧ t = { s with stories := t.stories, link := t.link })

/-! ## The scroll channels -/

/-- Sections 3.2, 3.4, 1.3 and 1.4: CHANNEL LOAD, for a channel that has no read point and for one that is inside a
story, the one that is loaded or another. That T stays 0 although END or START is cleared, and that the response
carries k a second time, are the model's readings (notes/assumptions/6.md, notes/assumptions/12.md). -/
def Obligations.ChannelLoadPlacesTheReadPoint : Prop :=
  ∀ (ch id k : Nat) (s : State), ch ≤ 255 → id ≤ 65535 → k ≤ 255 → Ready s →
    let run := exec (.channelLoad (u8 ch :: be16 id ++ [u8 k])) s
    (2 ≤ ch → run = .next (s.respond .argument 0x30 .empty))
    ∧ (ch < 2 → s.isLive id = false → run = .next (s.respond .notFound 0x30 .empty))
    ∧ (∀ st, ch < 2 → s.story? id = some st → (st.floated = true ∨ st.air = .doomed) →
        run = .next (s.respond .state 0x30 .empty))
    ∧ (∀ c st, toChannel ch = some c → s.story? id = some st → st.floated = false → st.air ≠ .doomed →
        ∃ t, run = .next t
          ∧ t.link = { s.link with state := .answering ⟨.ok, 0x30, .loaded ⟨id, min k st.lines.length, 0, 0⟩
              (min k st.lines.length) st.generation⟩ }
          ∧ t.channel c = { s.channel c with
              state := if (s.channel c).state = .unloaded then .parked else (s.channel c).state
              readPoint := some ⟨id, min k st.lines.length, 0, 0⟩
              speed := 0, target := 0, endFlag := false, startFlag := false, storyChanged := true }
          ∧ (∀ d, d ≠ c → t.channel d = s.channel d)
          ∧ (t.story? id).map (fun x => x.opens c) = some true
          ∧ (let entered := fun (x : Story) => if x.id = id then x.setOpen c true else x
            (s.currentStory c = none → t.stories = s.stories.map entered ∧ t.freeLines = s.freeLines)
            ∧ (∀ old, s.currentStory c = some old →
                (old.air = .doomed ∧ (old.setOpen c false).openEmpty = true →
                  t.stories = (s.stories.filter (fun x => x.id != old.id)).map entered
                    ∧ t.freeLines = s.freeLines + old.lines.length)
                ∧ (old.air ≠ .doomed ∨ (old.setOpen c false).openEmpty = false →
                  t.stories = (s.stories.map (fun x => if x.id = old.id then x.setOpen c false else x)).map entered
                    ∧ t.freeLines = s.freeLines)))
          ∧ t = { s with
              stories := t.stories, freeLines := t.freeLines, link := t.link, channelA := t.channelA,
              channelB := t.channelB })

/-- R46. -/
def Obligations.ChannelRunStartsMotion : Prop :=
  ∀ (ch : Nat) (s : State), ch ≤ 255 → Ready s →
    let run := exec (.channelRun [u8 ch]) s
    (2 ≤ ch → run = .next (s.respond .argument 0x31 .empty))
    ∧ (∀ c, toChannel ch = some c → (s.channel c).state = .unloaded → run = .next (s.respond .state 0x31 .empty))
    ∧ (∀ c, toChannel ch = some c → (s.channel c).state = .live →
        run = .next (s.respond .ok 0x31 (.channelState .live)))
    ∧ (∀ c, toChannel ch = some c → (s.channel c).state = .parked →
        ∃ t, run = .next t
          ∧ t.link = { s.link with state := .answering ⟨.ok, 0x31, .channelState .live⟩ }
          ∧ t.channel c = { s.channel c with state := .live, paused := false, target := targetFor t c }
          ∧ t.channel c = { (t.channel c) with speed := (s.channel c).speed }
          ∧ (∀ d, d ≠ c → t.channel d = s.channel d)
          ∧ t = { s with link := t.link, channelA := t.channelA, channelB := t.channelB })

/-- Sections 3.2, 3.4, 1.3 and 1.4: CHANNEL PARK and CHANNEL UNLOAD. -/
def Obligations.ParkStopsAndUnloadLeaves : Prop :=
  ∀ (ch : Nat) (s : State), ch ≤ 255 → Ready s →
    let park := exec (.channelPark [u8 ch]) s
    let unloaded := exec (.channelUnload [u8 ch]) s
    (2 ≤ ch → park = .next (s.respond .argument 0x32 .empty) ∧ unloaded = .next (s.respond .argument 0x33 .empty))
    ∧ (∀ c, toChannel ch = some c → (s.channel c).state = .unloaded →
        park = .next (s.respond .state 0x32 .empty) ∧ unloaded = .next (s.respond .ok 0x33 .empty))
    ∧ (∀ c rp, toChannel ch = some c → (s.channel c).state = .parked → (s.channel c).readPoint = some rp →
        park = .next (s.respond .ok 0x32 (.readPoint rp)))
    ∧ (∀ c rp, toChannel ch = some c → (s.channel c).state = .live → (s.channel c).readPoint = some rp →
        ∃ t, park = .next t
          ∧ t.link = { s.link with state := .answering ⟨.ok, 0x32, .readPoint rp⟩ }
          ∧ t.channel c = { s.channel c with state := .parked, speed := 0, target := 0 }
          ∧ (∀ d, d ≠ c → t.channel d = s.channel d)
          ∧ t = { s with link := t.link, channelA := t.channelA, channelB := t.channelB })
    ∧ (∀ c rp st, toChannel ch = some c → (s.channel c).state ≠ .unloaded → (s.channel c).readPoint = some rp →
        s.story? rp.story = some st →
        ∃ t, unloaded = .next t
          ∧ t.link.state = .answering ⟨.ok, 0x33, .empty⟩
          ∧ t.channel c = { s.channel c with
              state := .unloaded, readPoint := none, speed := 0, target := 0, endFlag := false,
              startFlag := false, paused := false, storyChanged := true }
          ∧ (∀ d, d ≠ c → t.channel d = s.channel d)
          ∧ (st.air = .doomed ∧ (st.setOpen c false).openEmpty = true →
              t.stories = s.stories.filter (fun x => x.id != rp.story) ∧ t.freeLines = s.freeLines + st.lines.length)
          ∧ (st.air ≠ .doomed ∨ (st.setOpen c false).openEmpty = false →
              t.stories = s.stories.map (fun x => if x.id = rp.story then x.setOpen c false else x)
                ∧ t.freeLines = s.freeLines)
          ∧ t.pt = s.pt
          ∧ t = { s with
              stories := t.stories, freeLines := t.freeLines, pt := t.pt, link := t.link,
              channelA := t.channelA, channelB := t.channelB })

/-- Sections 3.2 and 12.1: CHANNEL TUNE clamps and writes the present fields, limits S at once and recomputes T. -/
def Obligations.ChannelTuneClampsAndLimits : Prop :=
  ∀ (ch : Nat) (f : TuneFields) (s : State), (Command.channelTune ch f).fits → Ready s →
    let run := exec (.channelTune (Command.channelTune ch f).args) s
    let absent := f = ⟨none, none, none, none, none, none, none, none⟩
    let badCurve := ∃ n, f.curve = some n ∧ 2 ≤ n
    (2 ≤ ch → run = .next (s.respond .argument 0x34 .empty))
    ∧ (ch < 2 → (absent ∨ badCurve) → run = .next (s.respond .argument 0x34 .empty))
    ∧ (∀ c, toChannel ch = some c → ¬absent → ¬badCurve → ∃ t tun, run = .next t
        ∧ t.link = { s.link with state := .answering ⟨.ok, 0x34, .tuning tun⟩ }
        ∧ tun.vmax = (match f.vmax with | some n => max 16 (min 1023 n) | none => (s.channel c).tuning.vmax)
        ∧ tun.vrev = (match f.vrev with | some n => max 16 (min 1023 n) | none => (s.channel c).tuning.vrev)
        ∧ tun.dz = (match f.dz with | some n => min 31 n | none => (s.channel c).tuning.dz)
        ∧ tun.curve = (match f.curve with
            | some 0 => .linear | some _ => .square | none => (s.channel c).tuning.curve)
        ∧ tun.rampUp = (match f.rampUp with | some n => max 1 (min 64 n) | none => (s.channel c).tuning.rampUp)
        ∧ tun.rampDown = (match f.rampDown with | some n => max 1 (min 64 n) | none => (s.channel c).tuning.rampDown)
        ∧ tun.jogStep = (match f.jogStep with | some n => max 1 (min 64 n) | none => (s.channel c).tuning.jogStep)
        ∧ tun.guard = (match f.guard with | some n => min 15 n | none => (s.channel c).tuning.guard)
        ∧ (t.channel c).speed = (if (tun.vmax : Int) < (s.channel c).speed then (tun.vmax : Int)
            else if (tun.vrev : Int) < -(s.channel c).speed then -(tun.vrev : Int) else (s.channel c).speed)
        ∧ t.channel c = { s.channel c with
            tuning := tun, speed := (t.channel c).speed, target := targetFor t c }
        ∧ (∀ d, d ≠ c → t.channel d = s.channel d)
        ∧ t = { s with link := t.link, channelA := t.channelA, channelB := t.channelB })

/-- Sections 3.2, 3.7 and 7.4: CHANNEL STATUS reports the channel and then clears its status flags, its mark record
and, for the lead channel, the count of the cue record. -/
def Obligations.ChannelStatusReportsAndClears : Prop :=
  ∀ (ch : Nat) (s : State), ch ≤ 255 → Ready s →
    (2 ≤ ch → exec (.channelStatus [u8 ch]) s = .next (s.respond .argument 0x35 .empty))
    ∧ (∀ c, toChannel ch = some c → ∃ t r, exec (.channelStatus [u8 ch]) s = .next t
        ∧ t.link = { s.link with state := .answering ⟨.ok, 0x35, .channel r⟩ }
        ∧ r.state = (s.channel c).state ∧ r.speed = (s.channel c).speed ∧ r.target = (s.channel c).target
        ∧ r.tuning = (s.channel c).tuning ∧ r.paused = (s.channel c).paused
        ∧ r.endFlag = (s.channel c).endFlag ∧ r.startFlag = (s.channel c).startFlag
        ∧ r.storyChanged = (s.channel c).storyChanged ∧ r.ownerChanged = (s.channel c).ownerChanged
        ∧ r.endReached = (s.channel c).endReached ∧ r.marked = (s.channel c).marked ∧ r.mark = (s.channel c).mark
        ∧ ((s.channel c).readPoint = none → r.readPoint = none)
        ∧ (∀ rp st, (s.channel c).readPoint = some rp → s.story? rp.story = some st →
            r.readPoint = some (rp, st.generation))
        ∧ ((s.arbiter c).owner = none → r.owner = none)
        ∧ (∀ p, (s.arbiter c).owner = some p → r.owner = some (p, (s.station p).role))
        ∧ r.cueRecord = (if s.cues.lead = c then some (s.cues.lastCue, s.cues.count) else none)
        ∧ t.channel c = { s.channel c with
            storyChanged := false, ownerChanged := false, endReached := false, marked := false, mark := none }
        ∧ (∀ d, d ≠ c → t.channel d = s.channel d)
        ∧ t.cues = (if s.cues.lead = c then { s.cues with count := 0 } else s.cues)
        ∧ t = { s with link := t.link, channelA := t.channelA, channelB := t.channelB, cues := t.cues })

/-! ## The stations and the arbiter -/

/-- Sections 8.5, 8.1, 9.1, 9.5 and 9.6: STATION SET. A reconfigured station leaves its channel, an owner by a
departure with its hand-back, forgets its levels, latch and mark and is no one's last-loser; its error flags stay. -/
def Obligations.StationSetReconfigures : Prop :=
  ∀ (st : Nat) (f : StationFields) (s : State), (Command.stationSet st f).fits → Ready s →
    let run := exec (.stationSet (Command.stationSet st f).args) s
    let absent := f = ⟨none, none, none, none, none⟩
    let badValue := (∃ n, f.role = some n ∧ 3 ≤ n) ∨ (∃ n, f.channel = some n ∧ 2 ≤ n)
    let lapse := match f.lapseTime with | some n => max 50 (min 1000 n) | none => s.lapseTime
    let hand := match f.handOff with | some n => min 5000 n | none => s.handOff
    (4 ≤ st ∨ absent ∨ badValue → run = .next (s.respond .argument 0x40 .empty))
    ∧ (∀ p : Fin 4, p.val = st → ¬absent → ¬badValue → f.role = none → f.channel = none → f.rank = none →
        run = .next ({ s with lapseTime := lapse, handOff := hand }.respond .ok 0x40
          (.stationSet (s.station p).role (s.station p).channel (s.station p).rank (s.station p).state lapse hand)))
    ∧ (∀ p : Fin 4, p.val = st → OwnershipExact s → ¬badValue → (f.role ≠ none ∨ f.channel ≠ none ∨ f.rank ≠ none) →
        ∃ t x, run = .next t ∧ t.station p = x
          ∧ x = { s.station p with
              role := (match f.role with
                | some 0 => .off | some 1 => .presenter | some _ => .operator | none => (s.station p).role)
              channel := (match f.channel with | some 0 => .a | some _ => .b | none => (s.station p).channel)
              rank := (match f.rank with | some n => min 15 n | none => (s.station p).rank)
              state := if x.role = .off then .off else .silent
              lapse := none, lastLevels := none, held := none, takeLatch := false, overridden := false }
          ∧ t.lapseTime = lapse ∧ t.handOff = hand
          ∧ (let c := (s.station p).channel
            let kept := fun (d : ChannelId) =>
              if (s.arbiter d).lastLoser = some p then none else (s.arbiter d).lastLoser
            ((s.arbiter c).owner = some p → OwnerDeparts c p (kept c) s t)
            ∧ ((s.arbiter c).owner ≠ some p → WaiterLeaves c p (kept c) s t)
            ∧ (∀ d, d ≠ c → t.channel d = s.channel d ∧ t.arbiter d = { s.arbiter d with lastLoser := kept d }))
          ∧ t.link = { s.link with state := .answering ⟨.ok, 0x40, .stationSet x.role x.channel x.rank x.state lapse hand⟩ }
          ∧ t = { s with
              stations := t.stations, lapseTime := lapse, handOff := hand, arbiterA := t.arbiterA,
              arbiterB := t.arbiterB, channelA := t.channelA, channelB := t.channelB, link := t.link })

/-- Sections 8.5 and 9.6: STATION STATUS reports the station with its tally and then clears its error flags. -/
def Obligations.StationStatusReportsAndClears : Prop :=
  ∀ (n : Nat) (s : State), n ≤ 255 → Ready s →
    (4 ≤ n → exec (.stationStatus [u8 n]) s = .next (s.respond .argument 0x41 .empty))
    ∧ (∀ p : Fin 4, p.val = n → ∃ t r, exec (.stationStatus [u8 n]) s = .next t
        ∧ t.link = { s.link with state := .answering ⟨.ok, 0x41, .station r⟩ }
        ∧ r = { role := (s.station p).role, channel := (s.station p).channel, rank := (s.station p).rank,
                state := (s.station p).state, lastLevels := (s.station p).lastLevels, tally := r.tally,
                checkFlag := (s.station p).checkFlag, framingFlag := (s.station p).framingFlag,
                fieldFlag := (s.station p).fieldFlag, lapseFlag := (s.station p).lapseFlag,
                lapseTime := s.lapseTime, handOff := s.handOff }
        ∧ (let arb := s.arbiter (s.station p).channel
           r.tally = if arb.owner = some p then .owner else if p ∈ arb.waiting then .waiting
             else if arb.owner = none then .free else if (s.station p).overridden then .overridden else .lockedOut)
        ∧ t.station p = { s.station p with
            checkFlag := false, framingFlag := false, fieldFlag := false, lapseFlag := false }
        ∧ (∀ q, q ≠ p → t.station q = s.station q)
        ∧ t = { s with stations := t.stations, link := t.link })

/-- Sections 10.2 and 10.4: HEAD SET and HEAD STATUS. An attach queues a GEOMETRY frame and discards the waiting
position frame, a detach empties the port, both keep the overrun flag; HEAD STATUS reports and clears it. -/
def Obligations.HeadCommandsAttachAndReport : Prop :=
  ∀ (n ch : Nat) (s : State), n ≤ 255 → ch ≤ 255 → Ready s →
    (4 ≤ n ∨ 3 ≤ ch → exec (.headSet [u8 n, u8 ch]) s = .next (s.respond .argument 0x48 .empty))
    ∧ (4 ≤ n → exec (.headStatus [u8 n]) s = .next (s.respond .argument 0x49 .empty))
    ∧ (∀ h : Fin 4, h.val = n → ch = 2 → ∃ t, exec (.headSet [u8 n, u8 ch]) s = .next t
        ∧ t.head h = { s.head h with
            attachment := none, requests := [], answers := [], waitingPos := none, pendingGeom := none }
        ∧ (∀ q, q ≠ h → t.head q = s.head q)
        ∧ t.link = { s.link with state := .answering ⟨.ok, 0x48, .attachment none⟩ }
        ∧ t = { s with heads := t.heads, link := t.link })
    ∧ (∀ (h : Fin 4) (c : ChannelId), h.val = n → toChannel ch = some c → ∃ t, exec (.headSet [u8 n, u8 ch]) s = .next t
        ∧ (t.head h).attachment = some c ∧ (t.head h).waitingPos = none
        ∧ (t.head h).overrun = (s.head h).overrun
        ∧ ((s.head h).sending ≠ none → (t.head h).pendingGeom = some s.heights
            ∧ (t.head h).sending = (s.head h).sending ∧ (t.head h).lastKind = (s.head h).lastKind
            ∧ (HeadConsistent (s.head h) →
              t.head h = { s.head h with attachment := some c, waitingPos := none, pendingGeom := some s.heights }))
        ∧ ((s.head h).sending = none → (s.head h).answers = [] → (s.head h).requests = [] →
            t.head h = { s.head h with
              attachment := some c, waitingPos := none, pendingGeom := none,
              sending := some (.geometry s.heights), lastKind := .position })
        ∧ (∀ q, q ≠ h → t.head q = s.head q)
        ∧ t.link = { s.link with state := .answering ⟨.ok, 0x48, .attachment (some c)⟩ }
        ∧ t = { s with heads := t.heads, link := t.link })
    ∧ (∀ h : Fin 4, h.val = n → ∃ t, exec (.headStatus [u8 n]) s = .next t
        ∧ t.head h = { s.head h with overrun := false }
        ∧ (∀ q, q ≠ h → t.head q = s.head q)
        ∧ t.link = { s.link with state := .answering ⟨.ok, 0x49, .head ⟨(s.head h).attachment,
            (s.head h).requests.length, (s.head h).answers.length, (s.head h).waitingPos.isSome,
            (s.head h).pendingGeom.isSome, (s.head h).overrun⟩⟩ }
        ∧ t = { s with heads := t.heads, link := t.link })

/-! ## The show clock, the cue unit and the device -/

/-- Section 6.1: CLOCK SET, CLOCK HOLD and CLOCK RESUME. -/
def Obligations.ClockCommandsSetHoldAndResume : Prop :=
  ∀ (v : Int) (s : State), -2147483648 ≤ v → v ≤ 2147483647 → Ready s →
    exec (.clockSet (sbe32 v)) s = .next
      { s with
        clock := { s.clock with tOff := max 0 (min 35999 v), state := .counting, secondTimer := some 1000 }
        link := { s.link with state := .answering ⟨.ok, 0x50, .tOff (max 0 (min 35999 v))⟩ } }
    ∧ exec (.clockHold []) s = .next
      { s with
        clock := if s.clock.state = .counting then { s.clock with state := .stopped, secondTimer := none } else s.clock
        link := { s.link with state := .answering ⟨.ok, 0x51, .clock s.clock.tOff .stopped⟩ } }
    ∧ exec (.clockResume []) s = .next
      { s with
        clock := if s.clock.state = .stopped then { s.clock with state := .counting, secondTimer := some 1000 }
          else s.clock
        link := { s.link with state := .answering ⟨.ok, 0x52, .clock s.clock.tOff .counting⟩ } }

/-- Sections 6.3, 6.4, 6.5, 6.6, 6.7 and 6.8: TIMING READ reports Rem, the sum ahead, the float and the untimed count
of the lead channel, and clears OFF-AIR PASSED. -/
def Obligations.TimingReadReportsTheProgramme : Prop :=
  ∀ s : State, Ready s → ∃ t r, exec (.timingRead []) s = .next t
    ∧ t = { s with
        clock := { s.clock with offAirPassed := false }
        link := { s.link with state := .answering ⟨.ok, 0x53, .timing r⟩ } }
    ∧ r.tOff = s.clock.tOff ∧ r.clock = s.clock.state ∧ r.pt = s.pt ∧ r.lead = s.cues.lead
    ∧ r.offAirPassed = s.clock.offAirPassed
    ∧ r.float = max (-5999) (min 5999 (s.clock.tOff - r.showRem))
    ∧ (s.clearInProgress = true → r.story = 0 ∧ r.rem = 0 ∧ r.showRem = 0 ∧ r.untimed = 0)
    ∧ (s.clearInProgress = false → (s.channel s.cues.lead).readPoint = none →
        let ahead := s.stories.filter (fun x => decide (x.air = .standby ∧ x.floated = false))
        r.story = 0 ∧ r.rem = 0 ∧ r.showRem = ((ahead.map (fun x => x.p.getD 0)).sum : Nat)
          ∧ r.untimed = (ahead.filter (fun x => decide (x.p = none))).length)
    ∧ (∀ (rp : ReadPoint) (before after : List Story) (st : Story), s.clearInProgress = false →
        (s.channel s.cues.lead).readPoint = some rp → s.stories = before ++ st :: after → st.id = rp.story →
        (∀ x ∈ before, x.id ≠ rp.story) →
        let ahead := after.filter (fun x => decide (x.air = .standby ∧ x.floated = false))
        let row := if rp.k = 0 then rp.o
          else s.heights.slugBand + linesHeight s.heights (st.lines.take (rp.k - 1)) + rp.o
        r.story = st.id ∧ r.rem = ((st.p.getD 0 * (st.g - row) / st.g : Nat) : Int)
          ∧ r.showRem = r.rem + ((ahead.map (fun x => x.p.getD 0)).sum : Nat)
          ∧ r.untimed = (ahead.filter (fun x => decide (x.p = none))).length + (if st.p = none then 1 else 0))

/-- Sections 7.1 and 7.2: CUE OUTPUT SET and LEAD SET. That a CUE OUTPUT SET without width and level is taken, as in
the example of section 7.7, is the model's reading (notes/assumptions/17.md). -/
def Obligations.CueCommandsConfigureTheOutputs : Prop :=
  (∀ (out action : Nat) (width level : Option Nat) (s : State),
      (Command.cueOutputSet out action width level).fits → Ready s →
      let run := exec (.cueOutputSet (Command.cueOutputSet out action width level).args) s
      (out = 0 ∨ 5 ≤ out ∨ 4 ≤ action ∨ (∃ l, level = some l ∧ 2 ≤ l) →
        run = .next (s.respond .argument 0x62 .empty))
      ∧ (∀ (o : Fin 4) (a : CueAction), o.val + 1 = out → a.code = action → (∀ l ∈ level, l < 2) →
        ∃ t x, run = .next t ∧ t.output o = x ∧ x.action = a
          ∧ x.width = (match width with | some w => max 10 (min 250 w) | none => (s.output o).width)
          ∧ (level = some 0 → x.level = .low ∧ x.pulse = none) ∧ (level = some 1 → x.level = .high ∧ x.pulse = none)
          ∧ (level = none → x.level = (s.output o).level
              ∧ x.pulse = (if a = .pulse then (s.output o).pulse else none))
          ∧ (∀ q, q ≠ o → t.output q = s.output q)
          ∧ t.link = { s.link with state := .answering ⟨.ok, 0x62, .cueOutput x.action x.width x.level⟩ }
          ∧ t = { s with cues := { s.cues with outputs := t.cues.outputs }, link := t.link }))
  ∧ (∀ (ch : Nat) (s : State), ch ≤ 255 → Ready s →
      (2 ≤ ch → exec (.leadSet [u8 ch]) s = .next (s.respond .argument 0x61 .empty))
      ∧ (∀ c, toChannel ch = some c → exec (.leadSet [u8 ch]) s = .next
          { s with
            cues := { s.cues with lead := c }
            link := { s.link with state := .answering ⟨.ok, 0x61, .lead c⟩ } }))

/-- R174. -/
def Obligations.IdentifyNamesThePart : Prop :=
  ∀ s : State, Ready s →
    exec (.identify []) s = .next (s.respond .ok 0x64 (.identity 0x4E4C 40 0x41))
      ∧ (Payload.identity 0x4E4C 40 0x41).bytes = [0x4E, 0x4C, 40, 0x41]

/-- Sections 11.5 and 11.6: DEVICE STATUS reports which sources are pending, and the ATTENTION line is high exactly
while one is. It changes no state but the link's. -/
def Obligations.DeviceStatusReportsTheSources : Prop :=
  ∀ s : State, Ready s → ∃ r : Sources,
    exec (.deviceStatus []) s = .next (s.respond .ok 0x63 (.device r s.cues.lead s.freeLines s.stories.length))
    ∧ (r.channelA = true ↔ s.channelA.storyChanged = true ∨ s.channelA.ownerChanged = true
        ∨ s.channelA.endReached = true ∨ s.channelA.marked = true)
    ∧ (r.channelB = true ↔ s.channelB.storyChanged = true ∨ s.channelB.ownerChanged = true
        ∨ s.channelB.endReached = true ∨ s.channelB.marked = true)
    ∧ (r.cue = true ↔ 0 < s.cues.count)
    ∧ (∀ p : Fin 4, r.stations[p] = true ↔ (s.station p).checkFlag = true ∨ (s.station p).framingFlag = true
        ∨ (s.station p).fieldFlag = true ∨ (s.station p).lapseFlag = true)
    ∧ (∀ h : Fin 4, r.heads[h] = (s.head h).overrun) ∧ r.offAir = s.clock.offAirPassed
    ∧ (s.attention = true ↔ r.channelA = true ∨ r.channelB = true ∨ r.cue = true
        ∨ (∃ p : Fin 4, r.stations[p] = true) ∨ (∃ h : Fin 4, r.heads[h] = true) ∨ r.offAir = true)

/-- Section 6.1: a second expiry counts T_off down to −5999, and the passage from 1 to 0 sets OFF-AIR PASSED. That the
row has no effect on a STOPPED clock is the model's (notes/assumptions/3.md). -/
def Obligations.SecondExpiryCountsDown : Prop :=
  ∀ s : State,
    (s.clock.state = .counting → exec .secondExpiry s = .next
      { s with clock :=
          { tOff := if s.clock.tOff ≤ -5999 then -5999 else s.clock.tOff - 1
            state := .counting
            secondTimer := some 1000
            offAirPassed := s.clock.offAirPassed || decide (s.clock.tOff = 1) } })
    ∧ (s.clock.state = .stopped → exec .secondExpiry s = .next s)

/-- Sections 7.1, 7.3 and 7.4: a cue fires from a line report of the lead channel for a line with a cue that has not
fired, by the action of its output, and a pulse ends at its expiry. That the expiry row has no effect on an output
without a pulse is the model's (notes/assumptions/3.md). -/
def Obligations.CuesFireAndPulsesEnd : Prop :=
  ∀ (s : State) (o : Fin 4),
    ((s.output o).pulse ≠ none → ∃ t, exec (.cuePulseExpiry o) s = .next t
      ∧ t.output o = { s.output o with level := .low, pulse := none }
      ∧ (∀ q, q ≠ o → t.output q = s.output q)
      ∧ t = { s with cues := { s.cues with outputs := t.cues.outputs } })
    ∧ ((s.output o).pulse = none → exec (.cuePulseExpiry o) s = .next s)
    ∧ (∀ c id k, s.cues.lead ≠ c → reportLine c id k s = s)
    ∧ (∀ c id k st l, s.cues.lead = c → s.story? id = some st → st.lines[k - 1]? = some l →
        (l.cue = 0 ∨ l.fired = true → reportLine c id k s = s)
        ∧ (l.cue.val = o.val + 1 → l.fired = false →
          (reportLine c id k s).output o =
              (match (s.output o).action with
                | .pulse => { s.output o with level := .high, pulse := some (s.output o).width }
                | .toggle => { s.output o with
                    level := if (s.output o).level = .low then .high else .low, pulse := none }
                | .high => { s.output o with level := .high, pulse := none }
                | .low => { s.output o with level := .low, pulse := none })
            ∧ (∀ q, q ≠ o → (reportLine c id k s).output q = s.output q)
            ∧ (reportLine c id k s).story? id
                = some { st with lines := st.lines.set (k - 1) { l with fired := true } }
            ∧ (reportLine c id k s).cues.lastCue = l.cue
            ∧ (reportLine c id k s).cues.count = min 255 (s.cues.count + 1)
            ∧ reportLine c id k s = { s with
                stories := s.stories.map (fun x => if x.id = id then
                  { x with lines := x.lines.modify (k - 1) (fun y => { y with fired := true }) } else x)
                cues := { s.cues with
                  outputs := (reportLine c id k s).cues.outputs, lastCue := l.cue
                  count := min 255 (s.cues.count + 1) } }))

/-! ## Motion -/

/-- Sections 4.2, 4.3, 4.4, 3.3, 3.4, 3.5, 1.3, 1.4, 7.3 and 10.3: at a step expiry of a LIVE channel the read point
moves by S after the ramp, in 1/256 row, within its story, into the adjacent readable story with the leave and the
entry, or onto the clamp. A line reached is reported, a movement clears the flag of the clamp it moves away from, and
the position frame follows; the adjacent readable story is the nearest one in the running order that is neither
FLOATED nor DOOMED. That a clamp which moves nothing keeps the other flag is the model's reading
(notes/assumptions/13.md). -/
def Obligations.AStepMovesTheReadPointBySpeed : Prop :=
  (∀ (c : ChannelId) (s : State) (rp : ReadPoint) (st : Story),
      (s.channel c).stepTimer = true → (s.channel c).state = .live → (s.channel c).readPoint = some rp →
      s.story? rp.story = some st → st.holds s.heights rp → GeometryExact s → SpeedsBounded s → StoriesDistinct s →
      let ch := s.channel c
      let speed := ramp ch.tuning ch.speed ch.target
      let b : Int := st.distance s.heights rp
      let u : Int := b + speed
      ∃ t, exec (.channelStepExpiry c) s = .next t
        ∧ (speed = 0 → t.channel c = { ch with speed := 0 })
        ∧ (0 ≤ u → u < 256 * st.g →
            t.freeLines = s.freeLines ∧ t.pt = s.pt ∧ t.link = s.link
            ∧ (∀ k, 1 ≤ k → k ≤ st.n → b < 256 * st.firstRow s.heights k → 256 * st.firstRow s.heights k ≤ u →
                t.stories = (reportLine c st.id k s).stories ∧ t.cues = (reportLine c st.id k s).cues)
            ∧ ((∀ k, 1 ≤ k → k ≤ st.n → 256 * st.firstRow s.heights k ≤ b ∨ u < 256 * st.firstRow s.heights k) →
                t.stories = s.stories ∧ t.cues = s.cues)
            ∧ ∃ rp', st.holds s.heights rp' ∧ (st.distance s.heights rp' : Int) = u
              ∧ t.channel c = { ch with
                  readPoint := some rp', speed := speed
                  startFlag := ch.startFlag && !decide (0 < speed), endFlag := ch.endFlag && !decide (speed < 0)
                  target := if (0 < speed ∧ ch.startFlag = true) ∨ (speed < 0 ∧ ch.endFlag = true) then targetFor t c
                    else ch.target })
        ∧ (∀ next rest st', 256 * (st.g : Int) ≤ u → s.readableAfter st.id = next :: rest → s.story? next = some st' →
            SameStore t ((s.leftBy c .forward st.id).enteredBy c next) ∧ t.cues = s.cues
            ∧ ∃ rp', st'.holds s.heights rp' ∧ rp'.k = 0 ∧ (st'.distance s.heights rp' : Int) = u - 256 * st.g
              ∧ t.channel c = { ch with
                  readPoint := some rp', speed := speed, storyChanged := true, startFlag := false
                  target := if ch.startFlag then targetFor t c else ch.target })
        ∧ (∀ before rest st', u < 0 → s.readableBefore st.id = before :: rest → s.story? before = some st' →
            SameStore t ((s.leftBy c .backward st.id).enteredBy c before) ∧ t.cues = s.cues
            ∧ ∃ rp', st'.holds s.heights rp' ∧ rp'.k = st'.n ∧ (st'.distance s.heights rp' : Int) = u + 256 * st'.g
              ∧ t.channel c = { ch with
                  readPoint := some rp', speed := speed, storyChanged := true, endFlag := false
                  target := if ch.endFlag then targetFor t c else ch.target })
        ∧ (256 * (st.g : Int) ≤ u → s.readableAfter st.id = [] →
            SameStore t s ∧ t.cues = s.cues
            ∧ t.channel c = { ch with
                readPoint := some (st.lastPoint s.heights), speed := 0, endFlag := true
                endReached := ch.endReached || !ch.endFlag
                startFlag := ch.startFlag && decide (rp = st.lastPoint s.heights), target := targetFor t c })
        ∧ (u < 0 → s.readableBefore st.id = [] →
            SameStore t s ∧ t.cues = s.cues
            ∧ t.channel c = { ch with
                readPoint := some ⟨st.id, 0, 0, 0⟩, speed := 0, startFlag := true
                endFlag := ch.endFlag && decide (rp = ⟨st.id, 0, 0, 0⟩), target := targetFor t c })
        ∧ (∀ d, d ≠ c → t.channel d = s.channel d)
        ∧ (∀ h, (s.head h).attachment ≠ some c → t.head h = s.head h)
        ∧ (∀ h, (s.head h).attachment = some c → (s.head h).sending = none → (s.head h).answers = [] →
            (s.head h).requests = [] → (s.head h).pendingGeom = none →
            t.head h = { s.head h with
              sending := some (.position (positionFrame t c)), waitingPos := none, lastKind := .position })
        ∧ (∀ h, (s.head h).attachment = some c → (s.head h).sending ≠ none →
            (t.head h).waitingPos = some (positionFrame t c) ∧ (t.head h).sending = (s.head h).sending
              ∧ (t.head h).pendingGeom = (s.head h).pendingGeom
              ∧ (HeadConsistent (s.head h) → t.head h = { s.head h with waitingPos := some (positionFrame t c) }))
        ∧ t = { s with
            stories := t.stories, freeLines := t.freeLines, pt := t.pt, link := t.link, channelA := t.channelA,
            channelB := t.channelB, cues := t.cues, heads := t.heads })
  ∧ (∀ (s : State) (before after : List Story) (st : Story), s.stories = before ++ st :: after → StoriesDistinct s →
      let readable := fun (x : Story) => decide (x.floated = false ∧ x.air ≠ .doomed)
      s.readableAfter st.id = (after.filter readable).map Story.id
        ∧ s.readableBefore st.id = (before.reverse.filter readable).map Story.id)

/-- Sections 3.3, 10.3 and 10.7: a step expiry of a channel that is not LIVE moves nothing and hands a position frame
to each attached head; an idle transmitter with nothing waiting starts it at once, and otherwise it waits, the newest
one replacing an older one. That the row has no effect before the step timers run is the model's
(notes/assumptions/3.md). -/
def Obligations.AStepAtRestHandsPositionFrames : Prop :=
  ∀ (c : ChannelId) (s : State),
    ((s.channel c).stepTimer = false → exec (.channelStepExpiry c) s = .next s)
    ∧ ((s.channel c).stepTimer = true → (s.channel c).state ≠ .live →
        ∃ t f, exec (.channelStepExpiry c) s = .next t
          ∧ f.channel = c ∧ f.state = (s.channel c).state ∧ f.speed = (s.channel c).speed
          ∧ f.endFlag = (s.channel c).endFlag ∧ f.startFlag = (s.channel c).startFlag
          ∧ f.paused = (s.channel c).paused ∧ f.tOff = s.clock.tOff ∧ f.float = s.timingRun.float
          ∧ ((s.channel c).readPoint = none →
              f.story = 0 ∧ f.generation = 0 ∧ f.k = 0 ∧ f.o = 0 ∧ f.frac = 0)
          ∧ (∀ rp st, (s.channel c).readPoint = some rp → s.story? rp.story = some st →
              f.story = rp.story ∧ f.generation = st.generation ∧ f.k = rp.k ∧ f.o = rp.o ∧ f.frac = rp.frac)
          ∧ ((s.arbiter c).owner = none → f.ownerRole = .off)
          ∧ (∀ p, (s.arbiter c).owner = some p → f.ownerRole = (s.station p).role)
          ∧ (∀ h, (s.head h).attachment ≠ some c → t.head h = s.head h)
          ∧ (∀ h, (s.head h).attachment = some c → (s.head h).sending = none → (s.head h).answers = [] →
              (s.head h).requests = [] → (s.head h).pendingGeom = none →
              t.head h = { s.head h with sending := some (.position f), waitingPos := none, lastKind := .position })
          ∧ (∀ h, (s.head h).attachment = some c → (s.head h).sending ≠ none →
              (t.head h).waitingPos = some f ∧ (t.head h).sending = (s.head h).sending
                ∧ (t.head h).pendingGeom = (s.head h).pendingGeom
                ∧ (HeadConsistent (s.head h) → t.head h = { s.head h with waitingPos := some f }))
          ∧ t = { s with heads := t.heads })

/-- R72 and R73: the growing and the shrinking step of the ramp, and the course of a reversal. -/
def Obligations.TheRampGrowsAndShrinks : Prop :=
  ∀ (tun : Tuning) (S T : Int), 1 ≤ tun.rampUp → 1 ≤ tun.rampDown →
    (S = T → ramp tun S T = S)
    ∧ (0 ≤ S → S < T → ramp tun S T = min T (S + tun.rampUp))
    ∧ (S ≤ 0 → T < S → ramp tun S T = max T (S - tun.rampUp))
    ∧ (0 < S → T < S → ramp tun S T = max (max 0 T) (S - tun.rampDown))
    ∧ (S < 0 → S < T → ramp tun S T = min (min 0 T) (S + tun.rampDown))
    ∧ (S * T < 0 → ∀ n : Nat, n ≤ (S.natAbs + tun.rampDown - 1) / tun.rampDown →
        let x := rampAfter tun T n S
        0 ≤ S * x ∧ x.natAbs = S.natAbs - n * tun.rampDown)
    ∧ (S * T < 0 → rampAfter tun T ((S.natAbs + tun.rampDown - 1) / tun.rampDown) S = 0)
    ∧ (S * T < 0 → rampAfter tun T ((S.natAbs + tun.rampDown - 1) / tun.rampDown
          + (T.natAbs + tun.rampUp - 1) / tun.rampUp) S = T)

/-- R68, with the limits that section 4.1 draws from it: the size of T by the curve, one floor before the sign, and T
within −Vrev..Vmax with full deflection giving the limit exactly; and the T of a channel, from the deflection held for
its owner, as the channel's condition forces it (R69). -/
def Obligations.TheSpeedLawGivesTheTarget : Prop :=
  (∀ (tun : Tuning) (d : Int), TuningBounded tun → -127 ≤ d → d ≤ 127 →
      (d.natAbs ≤ tun.dz → speedLaw tun d = 0)
      ∧ (tun.curve = .linear → tun.dz < d.natAbs →
          (speedLaw tun d).natAbs
              = (if 0 < d then tun.vmax else tun.vrev) * (d.natAbs - tun.dz) / (127 - tun.dz)
            ∧ 0 ≤ d * speedLaw tun d)
      ∧ (tun.curve = .square → tun.dz < d.natAbs →
          (speedLaw tun d).natAbs
              = (if 0 < d then tun.vmax else tun.vrev) * (d.natAbs - tun.dz) * (d.natAbs - tun.dz)
                / ((127 - tun.dz) * (127 - tun.dz))
            ∧ 0 ≤ d * speedLaw tun d)
      ∧ -(tun.vrev : Int) ≤ speedLaw tun d ∧ speedLaw tun d ≤ tun.vmax
      ∧ speedLaw tun 127 = tun.vmax ∧ speedLaw tun (-127) = -(tun.vrev : Int)
      ∧ (∀ e : Int, d ≤ e → e ≤ 127 → speedLaw tun d ≤ speedLaw tun e))
  ∧ (∀ (s : State) (c : ChannelId),
      ((s.channel c).state ≠ .live ∨ (s.arbiter c).owner = none ∨ (s.channel c).paused = true → targetFor s c = 0)
      ∧ ∀ p d, (s.channel c).state = .live → (s.arbiter c).owner = some p → (s.channel c).paused = false →
          (s.station p).held = some d →
          let law := speedLaw (s.channel c).tuning d
          let forced := ((s.channel c).endFlag = true ∧ 0 < law) ∨ ((s.channel c).startFlag = true ∧ law < 0)
          (forced → targetFor s c = 0) ∧ (¬forced → targetFor s c = law))

/-! ## Events at the station ports -/

/-- Sections 8.2, 8.3, 8.4, 3.3, 3.4, 3.5, 3.6, 4.5, 7.5, 9.3 and 9.6: an accepted REPORT updates the station's
record, is settled by the arbiter, writes its mark, reaches the channel with its presses and its jog in their order,
and is answered ACCEPTED with the standing it produced and the speed bar; and what PAUSE, NEXT, PREV, MARK and the jog
do at a channel. That T stays 0 after a jump and that a clamp which moves nothing keeps the other flag are the model's
readings (notes/assumptions/6.md, notes/assumptions/13.md). -/
def Obligations.AnAcceptedReportIsTakenAndAnswered : Prop :=
  (∀ (p : Fin 4) (d j : Int) (b : Buttons) (s : State),
    -128 ≤ d → d ≤ 127 → -128 ≤ j → j ≤ 127 → StationReceives s p → (s.station p).role ≠ .off →
    let y := s.station p
    let c := y.channel
    let hit := fun (get : Buttons → Bool) =>
      decide (y.state = .active) && get b && y.lastLevels.any (fun old => !get old.buttons)
    let turn := max (-63) (min 63 j)
    let settled := settle p (max (-127) d) turn (hit Buttons.take) (hit Buttons.release)
      (s.modStation p (fun x =>
        { x with state := .active, lapse := some s.lapseTime, lastLevels := some ⟨max (-127) d, turn, b⟩ }))
    let owns := (settled.arbiter c).owner = some p
    let acts := owns ∨ y.role = .operator
    let s1 := if hit Buttons.mark then markPress c settled else settled
    let s2 := if acts ∧ hit Buttons.pause = true then pausePress c s1 else s1
    let s3 := if acts ∧ hit Buttons.next = true ∧ hit Buttons.prev = false then nextPress c s2
      else if acts ∧ hit Buttons.prev = true ∧ hit Buttons.next = false then prevPress c s2 else s2
    let s4 := if owns ∧ j ≠ 0 then jog c turn s3 else s3
    let s5 := if owns then s4.setChannel c { s4.channel c with target := targetFor s4 c } else s4
    let u := if (s.channel c).state = .unloaded then settled else s5
    ∃ t a, exec (.stationReport p (portFrame (reportBody d j b))) s = .next t
      ∧ (t.station p).state = .active ∧ (t.station p).lapse = some s.lapseTime
      ∧ (t.station p).lastLevels = some ⟨max (-127) d, max (-63) (min 63 j), b⟩
      ∧ (t.station p).held = some (max (-127) d)
      ∧ a = ⟨.accepted, t.tally p, (t.channel (s.station p).channel).speedBar,
          (t.channel (s.station p).channel).paused⟩
      ∧ ((s.station p).sending = none → (t.station p).sending = some a
          ∧ (t.station p).waitingAnswer = (s.station p).waitingAnswer)
      ∧ ((s.station p).sending ≠ none → (t.station p).sending = (s.station p).sending
          ∧ (t.station p).waitingAnswer = some a)
      ∧ t.station p = { s.station p with
          state := .active, lapse := (t.station p).lapse, lastLevels := (t.station p).lastLevels,
          held := (t.station p).held, sending := (t.station p).sending,
          waitingAnswer := (t.station p).waitingAnswer, takeLatch := (t.station p).takeLatch,
          overridden := (t.station p).overridden }
      ∧ (∀ q, q ≠ p → t.station q = { s.station q with overridden := (t.station q).overridden })
      ∧ (∀ c, c ≠ (s.station p).channel → t.channel c = s.channel c ∧ t.arbiter c = s.arbiter c)
      ∧ ((s.channel (s.station p).channel).state = .unloaded →
          t.stories = s.stories ∧ t.cues = s.cues ∧ t.link = s.link
            ∧ (t.channel (s.station p).channel).readPoint = (s.channel (s.station p).channel).readPoint)
      ∧ (∀ q, q ≠ p → t.station q = u.station q)
      ∧ t.station p = { u.station p with
          sending := (t.station p).sending, waitingAnswer := (t.station p).waitingAnswer }
      ∧ t = { u with stations := t.stations }
      ∧ t = { s with
          stories := t.stories, freeLines := t.freeLines, pt := t.pt, link := t.link, channelA := t.channelA,
          channelB := t.channelB, arbiterA := t.arbiterA, arbiterB := t.arbiterB, stations := t.stations,
          cues := t.cues })
  ∧ (∀ (c : ChannelId) (s : State), PauseToggles c s (pausePress c s) ∧ MarkRecords c s (markPress c s)
      ∧ NextJumps c s (nextPress c s) ∧ PrevJumps c s (prevPress c s))
  ∧ (∀ (c : ChannelId) (j : Int) (s : State), JogWalks c j s (jog c j s))
  ∧ (∀ ch : Channel,
      (0 < ch.speed → ch.speedBar = ch.speed.natAbs * 15 / ch.tuning.vmax)
      ∧ (ch.speed < 0 → ch.speedBar = ch.speed.natAbs * 15 / ch.tuning.vrev)
      ∧ (ch.speed = 0 → ch.speedBar = 0) ∧ (ChannelBounded ch → ch.speedBar ≤ 15))

/-- Sections 8.2, 8.3 and 8.4: a REPORT at an OFF port, one that fails its check byte and one with a field fault are
answered REJECTED, CHECK_ERROR and REJECTED, set no flag, CHECK and FIELD, and do nothing else. -/
def Obligations.ARefusedReportOnlySetsItsFlag : Prop :=
  ∀ (p : Fin 4) (body : List Byte) (check : Byte) (s : State), 1 ≤ body.length → body.length ≤ 16 →
    StationReceives s p →
    let run := exec (.stationReport p (0xA5 :: u8 body.length :: (body ++ [check]))) s
    let fits := endAroundSum (u8 body.length :: body ++ [check]) = 0xFF#8
    let fieldFault := ∀ x y z : Byte, body = [x, y, z] → z.getLsbD 6 = true ∨ z.getLsbD 7 = true
    let answered := fun (status : AnswerStatus) (st : Station) =>
      let a : Answer := ⟨status, s.tally p, (s.channel st.channel).speedBar, (s.channel st.channel).paused⟩
      if st.sending = none then { st with sending := some a } else { st with waitingAnswer := some a }
    let only := fun (st : Station) => ∃ t, run = .next t ∧ t.station p = st
      ∧ (∀ q, q ≠ p → t.station q = s.station q) ∧ t = { s with stations := t.stations }
    ((s.station p).role = .off → only (answered .rejected (s.station p)))
    ∧ ((s.station p).role ≠ .off → ¬fits → only (answered .checkError { s.station p with checkFlag := true }))
    ∧ ((s.station p).role ≠ .off → fits → fieldFault →
        only (answered .rejected { s.station p with fieldFlag := true }))

/-- Sections 8.2 and 10.5: a framing fault or a gap abandons the frame in progress; a station whose role is not OFF
sets FRAMING, a head port sets nothing, and a character or an expiry outside a frame does what the rules say. That a
gap expiry outside a frame has no effect is the model's (notes/assumptions/3.md). -/
def Obligations.PortFaultsAbandonTheFrame : Prop :=
  ∀ (p : Fin 4) (b : Byte) (s : State), s.started = true →
    let faulted : Station := { s.station p with
      rx := .hunting, gap := none,
      framingFlag := (s.station p).framingFlag || decide ((s.station p).role ≠ .off) }
    let onlyStation := fun (i : Instr) (st : Station) => ∃ t, exec i s = .next t ∧ t.station p = st
      ∧ (∀ q, q ≠ p → t.station q = s.station q) ∧ t = { s with stations := t.stations }
    let onlyHead := fun (i : Instr) (hd : Head) => ∃ t, exec i s = .next t ∧ t.head p = hd
      ∧ (∀ q, q ≠ p → t.head q = s.head q) ∧ t = { s with heads := t.heads }
    onlyStation (.stationFramingFault p ⟨b, false⟩) faulted
    ∧ ((s.station p).rx = .marker → (b.toNat = 0 ∨ 16 < b.toNat) →
        onlyStation (.stationFramingFault p (goodChar b)) faulted)
    ∧ ((s.station p).rx ≠ .hunting → onlyStation (.stationGapExpiry p) faulted)
    ∧ ((s.station p).rx = .hunting → exec (.stationGapExpiry p) s = .next s)
    ∧ onlyHead (.headFramingFault p ⟨b, false⟩) { s.head p with rx := .hunting, gap := none }
    ∧ ((s.head p).rx = .marker → (b.toNat = 0 ∨ 16 < b.toNat) →
        onlyHead (.headFramingFault p (goodChar b)) { s.head p with rx := .hunting, gap := none })
    ∧ onlyHead (.headGapExpiry p) { s.head p with rx := .hunting, gap := none }

/-- Sections 8.3, 9.5 and 9.6: the expiry of a running lapse timer makes the station SILENT, sets LAPSE and takes the
station out of its channel's arbitration; a lapsed owner becomes the last-loser. That the row has no effect on a
stopped timer is the model's (notes/assumptions/3.md). -/
def Obligations.ALapseSilencesTheStation : Prop :=
  ∀ (p : Fin 4) (s : State),
    ((s.station p).lapse = none → exec (.lapseExpiry p) s = .next s)
    ∧ ((s.station p).lapse ≠ none →
        let c := (s.station p).channel
        ∃ t, exec (.lapseExpiry p) s = .next t
          ∧ t.station p = { s.station p with
              state := .silent, lapse := none, lapseFlag := true, takeLatch := false, overridden := false }
          ∧ (∀ q, q ≠ p → t.station q = { s.station q with overridden := (t.station q).overridden })
          ∧ ((s.arbiter c).owner ≠ some p → t.arbiter c =
                { s.arbiter c with waiting := (s.arbiter c).waiting.filter (fun q => decide (q ≠ p)) }
              ∧ t.channel c = s.channel c ∧ ∀ q, q ≠ p → t.station q = s.station q)
          ∧ ((s.arbiter c).owner = some p → (s.arbiter c).waiting = [] →
              t.arbiter c = ⟨none, [], some p, 0⟩ ∧ (t.channel c).target = 0)
          ∧ ((s.arbiter c).owner = some p → p ∉ (s.arbiter c).waiting → OwnerDeparts c p (some p) s t)
          ∧ ((s.arbiter c).owner = some p → t.channel c = { s.channel c with
              ownerChanged := true, target := targetFor t c })
          ∧ (∀ d, d ≠ c → t.channel d = s.channel d ∧ t.arbiter d = s.arbiter d)
          ∧ t = { s with
              stations := t.stations, arbiterA := t.arbiterA, arbiterB := t.arbiterB, channelA := t.channelA,
              channelB := t.channelB })

/-- Section 8.4: the ANSWER transmitter, finished, sends the ANSWER in the waiting slot. That the row has no effect
when nothing is being sent is the model's (notes/assumptions/3.md). -/
def Obligations.AnAnswerSentFreesTheTransmitter : Prop :=
  ∀ (p : Fin 4) (s : State), ∃ t, exec (.answerTxDone p) s = .next t
    ∧ t.station p = (if (s.station p).sending = none then s.station p
        else { s.station p with sending := (s.station p).waitingAnswer, waitingAnswer := none })
    ∧ (∀ q, q ≠ p → t.station q = s.station q)
    ∧ t = { s with stations := t.stations }

/-- R145: the hand-back chooses the one waiting station that ranks before every other, whatever the order of joining. -/
def Obligations.TheHandBackRanksTheWaitingStations : Prop :=
  ∀ (s : State) (loser : Option (Fin 4)) (waiting : List (Fin 4)), waiting.Nodup →
    (waiting = [] → successor s loser waiting = none)
    ∧ (waiting ≠ [] → ∃ q ∈ waiting, successor s loser waiting = some q
        ∧ ∀ p ∈ waiting, p ≠ q →
          (if loser = some p then True
            else if loser = some q then False
            else if (s.station q).role = .operator ∧ (s.station p).role ≠ .operator then True
            else if (s.station q).role ≠ .operator ∧ (s.station p).role = .operator then False
            else if (s.station q).rank ≠ (s.station p).rank then (s.station q).rank < (s.station p).rank
            else q.val < p.val))
    ∧ (∀ other : List (Fin 4), other.Perm waiting → successor s loser other = successor s loser waiting)

/-- Sections 9.1, 9.2, 9.3, 9.4, 9.5 and 9.6: how the arbiter settles a REPORT. The owner departs by a RELEASE press,
and otherwise its activity sets the idle time to 0. A station that is not the owner claims an ownerless channel,
overrides, takes over or waits, and leaves the list when it is not requesting. -/
def Obligations.ClaimsAreSettledByRoleAndIdleTime : Prop :=
  ∀ (p : Fin 4) (d j : Int) (take release : Bool) (s : State),
    let c := (s.station p).channel
    let t := settle p d j take release s
    let latch := (t.station p).takeLatch
    let asks := release = false ∧ ((s.channel c).tuning.dz < d.natAbs ∨ j ≠ 0
      ∨ ((s.station p).role = .operator ∧ latch = true))
    let gains := (t.arbiter c).owner = some p ∧ (t.arbiter c).idle = 0
      ∧ (t.arbiter c).waiting = (s.arbiter c).waiting.filter (fun x => decide (x ≠ p))
      ∧ (t.arbiter c).lastLoser = (s.arbiter c).lastLoser
      ∧ t.channel c = { s.channel c with ownerChanged := true, target := targetFor t c }
      ∧ (t.station p).overridden = false
    let others := ∀ r, r ≠ p → t.station r = s.station r
    ((s.arbiter c).owner = some p →
      (t.station p).held = some d
      ∧ (release = true → p ∉ (s.arbiter c).waiting → OwnerDeparts c p (some p) s t ∧ latch = false)
      ∧ (release = false →
        latch = ((s.station p).takeLatch || (decide ((s.station p).role = .operator) && take))
        ∧ t.channel c = s.channel c
        ∧ t.arbiter c = { s.arbiter c with
            idle := if (s.channel c).tuning.dz < d.natAbs ∨ j ≠ 0 ∨ take = true then 0 else (s.arbiter c).idle }
        ∧ (t.station p).overridden = (s.station p).overridden ∧ others))
    ∧ ((s.arbiter c).owner ≠ some p →
      (t.station p).held = some d
      ∧ ((s.station p).role = .operator →
          latch = (if release then false else if take then true else (s.station p).takeLatch))
      ∧ ((s.station p).role ≠ .operator → latch = (s.station p).takeLatch)
      ∧ (¬asks → (t.arbiter c) = { s.arbiter c with
            waiting := (s.arbiter c).waiting.filter (fun x => decide (x ≠ p)) } ∧ t.channel c = s.channel c
          ∧ (t.station p).overridden = (s.station p).overridden ∧ others)
      ∧ (asks → (s.arbiter c).owner = none → gains ∧ others)
      ∧ (∀ q, asks → (s.arbiter c).owner = some q → (s.station p).role = .operator → take = true →
          (s.station q).role = .presenter → gains
            ∧ ∀ r, r ≠ p → t.station r = if r = q then { s.station r with overridden := true } else s.station r)
      ∧ (∀ q, asks → (s.arbiter c).owner = some q → (s.station p).role = (s.station q).role →
          s.handOff ≤ (s.arbiter c).idle →
          gains ∧ others)
      ∧ (∀ q, asks → (s.arbiter c).owner = some q →
          ¬((s.station p).role = .operator ∧ take = true ∧ (s.station q).role = .presenter) →
          ¬((s.station p).role = (s.station q).role ∧ s.handOff ≤ (s.arbiter c).idle) →
          t.arbiter c = { s.arbiter c with
            waiting := if p ∈ (s.arbiter c).waiting then (s.arbiter c).waiting else (s.arbiter c).waiting ++ [p] }
          ∧ t.channel c = s.channel c
          ∧ (t.station p).overridden = (decide (p ∈ (s.arbiter c).waiting) && (s.station p).overridden) ∧ others))
    ∧ t.station p = { s.station p with held := some d, takeLatch := latch, overridden := (t.station p).overridden }
    ∧ (∀ e, e ≠ c → t.channel e = s.channel e ∧ t.arbiter e = s.arbiter e)
    ∧ t = { s with
        stations := t.stations, arbiterA := t.arbiterA, arbiterB := t.arbiterB, channelA := t.channelA,
        channelB := t.channelB }

/-! ## Events at the head ports -/

/-- Sections 10.1, 10.5 and 10.7: a FETCH at an attached port with room is answered from the story as it stands; it is
queued while two answers wait, discarded with overrun when two requests wait, and discarded without a trace at a
detached port, with a wrong check byte or with a wrong length. -/
def Obligations.AFetchIsAnsweredFromTheStory : Prop :=
  ∀ (h : Fin 4) (story first count : Nat) (gen : Option Nat) (s : State),
    story ≤ 65535 → first ≤ 255 → count ≤ 255 → OptAtMost 255 gen → HeadReceives s h →
    let run := exec (.fetch h (portFrame (fetchBody story gen first count))) s
    let only := fun (hd : Head) => ∃ t, run = .next t ∧ t.head h = hd
      ∧ (∀ q, q ≠ h → t.head q = s.head q) ∧ t = { s with heads := t.heads }
    let isAnswer := fun (a : FetchAnswer) =>
      (s.clearInProgress = true → a = .busy story first)
      ∧ (s.clearInProgress = false → s.isLive story = false → a = .gone story first)
      ∧ (∀ st, s.clearInProgress = false → s.story? story = some st →
          ((∃ g, gen = some g ∧ g ≠ st.generation) → a = .stale story first st.generation)
          ∧ ((gen = none ∨ gen = some st.generation) → st.lines.length < first →
              a = .range story first st.generation st.lines.length)
          ∧ ((gen = none ∨ gen = some st.generation) → first ≤ st.lines.length → ∃ recs,
              a = .lines story first st.generation st.lines.length recs
                ∧ recs.length = min (max 1 (min 8 count)) (st.lines.length - first + 1)
                ∧ ∀ i, i < recs.length → recs[i]? = st.recAt (first + i)))
    ((s.head h).attachment = none → only (s.head h))
    ∧ ((s.head h).attachment ≠ none → (s.head h).requests.length = 2 → only { s.head h with overrun := true })
    ∧ ((s.head h).attachment ≠ none → (s.head h).requests.length < 2 → (s.head h).answers.length = 2 →
        (s.head h).sending ≠ none →
        only { s.head h with requests := (s.head h).requests ++ [⟨story, gen, first, max 1 (min 8 count)⟩] })
    ∧ ((s.head h).attachment ≠ none → (s.head h).requests = [] → (s.head h).answers.length < 2 →
        (s.head h).sending ≠ none →
        ∃ a, isAnswer a ∧ only { s.head h with answers := (s.head h).answers ++ [a] })
    ∧ ((s.head h).attachment ≠ none → (s.head h).requests = [] → (s.head h).answers = [] →
        (s.head h).sending = none → (s.head h).waitingPos = none → (s.head h).pendingGeom = none →
        ∃ a, isAnswer a ∧ only { s.head h with sending := some (.answer a), lastKind := .answer })
    ∧ (∀ (body : List Byte) (check : Byte), 1 ≤ body.length → body.length ≤ 16 →
        (endAroundSum (u8 body.length :: body ++ [check]) ≠ 0xFF#8 ∨ body.length ≠ 6) →
        exec (.fetch h (0xA5 :: u8 body.length :: (body ++ [check]))) s = .next s)

/-- Sections 10.5 and 10.7: a head transmitter that has sent a frame starts the next one: of the two kinds the one not
sent last, a GEOMETRY frame before a position frame, the oldest answer, whose room the oldest waiting request takes.
That the row has no effect when nothing is being sent is the model's (notes/assumptions/3.md). -/
def Obligations.AHeadTransmitterTakesTurns : Prop :=
  ∀ (h : Fin 4) (s : State),
    let hd := s.head h
    ((s.head h).sending = none → exec (.headTxDone h) s = .next s)
    ∧ (hd.sending ≠ none → hd.requests = [] → ∃ t x, exec (.headTxDone h) s = .next t ∧ t.head h = x
        ∧ (hd.answers = [] → hd.waitingPos = none → hd.pendingGeom = none → x = { hd with sending := none })
        ∧ (∀ g, hd.pendingGeom = some g → (hd.answers = [] ∨ hd.lastKind = .answer) →
            x = { hd with sending := some (.geometry g), pendingGeom := none, lastKind := .position })
        ∧ (∀ f, hd.pendingGeom = none → hd.waitingPos = some f → (hd.answers = [] ∨ hd.lastKind = .answer) →
            x = { hd with sending := some (.position f), waitingPos := none, lastKind := .position })
        ∧ (∀ a rest, hd.answers = a :: rest →
            ((hd.waitingPos = none ∧ hd.pendingGeom = none) ∨ hd.lastKind = .position) →
            x = { hd with sending := some (.answer a), answers := rest, lastKind := .answer })
        ∧ (∀ q, q ≠ h → t.head q = s.head q)
        ∧ t = { s with heads := t.heads })
    ∧ (hd.sending ≠ none → HeadConsistent hd → ∃ t x, exec (.headTxDone h) s = .next t ∧ t.head h = x
        ∧ HeadConsistent x ∧ x.overrun = hd.overrun ∧ x.attachment = hd.attachment
        ∧ (∀ r rs a b, hd.requests = r :: rs → hd.answers = [a, b] →
            ((hd.waitingPos = none ∧ hd.pendingGeom = none) ∨ hd.lastKind = .position →
              ∃ answer, IsAnswer s r answer ∧ x = { hd with
                sending := some (.answer a), answers := [b, answer], requests := rs, lastKind := .answer })
            ∧ ((hd.waitingPos ≠ none ∨ hd.pendingGeom ≠ none) → hd.lastKind = .answer →
              x.requests = hd.requests ∧ x.answers = hd.answers
              ∧ (∀ g, hd.pendingGeom = some g →
                x = { hd with sending := some (.geometry g), pendingGeom := none, lastKind := .position })
              ∧ (∀ f, hd.pendingGeom = none → hd.waitingPos = some f →
                x = { hd with sending := some (.position f), waitingPos := none, lastKind := .position })))
        ∧ (∀ q, q ≠ h → t.head q = s.head q)
        ∧ t = { s with heads := t.heads })

/-- R124: the end-around check byte of a station or head frame. -/
def Obligations.TheCheckByteWrapsItsCarry : Prop :=
  (∀ a b : Byte, (endAroundAdd a b).toNat
      = if a.toNat + b.toNat ≤ 255 then a.toNat + b.toNat else (a.toNat + b.toNat) % 256 + 1)
  ∧ (∀ (bs : List Byte) (check : Byte), checkPasses bs check = true ↔
      endAroundAdd (bs.foldl endAroundAdd 0) check = 0xFF#8)
  ∧ (∀ bs : List Byte, checkByte bs = 0xFF#8 - bs.foldl endAroundAdd 0 ∧ checkPasses bs (checkByte bs) = true)
  ∧ (∀ len : Nat, checkPasses (List.replicate len 0) 0 = false)
  ∧ (∀ bs : List Byte, portFrame bs = [0xA5, u8 bs.length] ++ bs ++ [checkByte (u8 bs.length :: bs)])
  ∧ checkByte [0xC8, 0x5A, 0x21] = 0xBB

/-! ## What every step keeps -/

/-- Sections 1.1, 1.2, 1.5, 2.1 and 2.2: every step keeps the stories distinct and at most 128, PT the sum of the
seconds of the stories that count, the 4096 lines accounted for, and every record within its ranges. -/
def Obligations.EveryStepAccountsForStoriesSecondsAndLines : Prop :=
  ∀ s t : State, step s = .next t → (StoreSound s → StoreSound t) ∧ (RecordsSound s → RecordsSound t)

/-- Sections 1.3, 1.4, 2.3, 2.4 and 3.1: every step keeps the open sets, read points and channel states in agreement,
a DOOMED story held by a channel, and G the sum of the heights. -/
def Obligations.EveryStepKeepsOpenSetsAndGeometry : Prop :=
  ∀ s t : State, step s = .next t → (OpenSetsSound s → OpenSetsSound t) ∧ (GeometrySound s → GeometrySound t)

/-- Sections 3.1, 3.5, 4.3, 4.4, 4.5 and 5.2: every step keeps the read point of each channel inside its story and a
clamped channel at the edge of the readable rundown. -/
def Obligations.EveryStepKeepsReadPointsInside : Prop :=
  ∀ s t : State, step s = .next t → MotionSound s → MotionSound t

/-- Sections 3.1, 4.1, 4.2 and 8.2: every step keeps S and T of each channel within −Vrev..Vmax, at 0 unless the
channel is LIVE, and the tuning in range. -/
def Obligations.EveryStepKeepsSpeedsWithinLimits : Prop :=
  ∀ s t : State, step s = .next t → SpeedsBounded s → SpeedsBounded t

/-- Sections 8.1, 9.1 and 9.5: every step keeps at most one owner per channel, bound and ACTIVE, and the waiting list
without repeats, bound, ACTIVE, without the owner and empty when there is none. -/
def Obligations.EveryStepKeepsOwnershipExact : Prop :=
  ∀ s t : State, step s = .next t → OwnershipSound s → OwnershipSound t

/-- Sections 6.1, 7.1, 7.4, 10.1, 10.5, 10.7, 11.1 and 11.2: every step keeps the head queues and transmitters, the
link with its operation in flight, the clock and the cue unit consistent. -/
def Obligations.EveryStepKeepsPortsLinkAndShowConsistent : Prop :=
  ∀ s t : State, step s = .next t →
    (HeadsConsistent s → HeadsConsistent t) ∧ (LinkSound s → LinkSound t) ∧ (ShowSound s → ShowSound t)

/-- Sections 1.10, 2.8, 3.8, 6.9, 7.6, 8.6, 9.7, 10.8 and 11.7: the state after reset meets every invariant. That this
state is the moment start-up has completed is the model's choice (notes/assumptions/1.md). -/
def Obligations.ResetMeetsEveryInvariant : Prop :=
  StoreSound State.reset ∧ RecordsSound State.reset ∧ OpenSetsSound State.reset ∧ GeometrySound State.reset
    ∧ MotionSound State.reset ∧ SpeedsBounded State.reset ∧ OwnershipSound State.reset
    ∧ HeadsConsistent State.reset ∧ LinkSound State.reset ∧ ShowSound State.reset ∧ Ready State.reset
end

