-- ==== Sys2Proof/Laws/State.lean ====
section
/-! SUPPORT. One lemma per field and update of the state: what `State.setChannel` and its like leave as it was, and what
they write. Proofs about a step rewrite with these and never unfold a record update. -/

namespace Sys2Proof.Machine

/-! ## `State.setChannel` leaves every other field as it was -/

@[simp] theorem State.setChannel_stories (s : State) (c : ChannelId) (ch : Channel) :
    (s.setChannel c ch).stories = s.stories := by cases c <;> rfl

@[simp] theorem State.setChannel_pt (s : State) (c : ChannelId) (ch : Channel) :
    (s.setChannel c ch).pt = s.pt := by cases c <;> rfl

@[simp] theorem State.setChannel_clearInProgress (s : State) (c : ChannelId) (ch : Channel) :
    (s.setChannel c ch).clearInProgress = s.clearInProgress := by cases c <;> rfl

@[simp] theorem State.setChannel_heights (s : State) (c : ChannelId) (ch : Channel) :
    (s.setChannel c ch).heights = s.heights := by cases c <;> rfl

@[simp] theorem State.setChannel_pendingHeights (s : State) (c : ChannelId) (ch : Channel) :
    (s.setChannel c ch).pendingHeights = s.pendingHeights := by cases c <;> rfl

@[simp] theorem State.setChannel_freeLines (s : State) (c : ChannelId) (ch : Channel) :
    (s.setChannel c ch).freeLines = s.freeLines := by cases c <;> rfl

@[simp] theorem State.setChannel_arbiterA (s : State) (c : ChannelId) (ch : Channel) :
    (s.setChannel c ch).arbiterA = s.arbiterA := by cases c <;> rfl

@[simp] theorem State.setChannel_arbiterB (s : State) (c : ChannelId) (ch : Channel) :
    (s.setChannel c ch).arbiterB = s.arbiterB := by cases c <;> rfl

@[simp] theorem State.setChannel_stations (s : State) (c : ChannelId) (ch : Channel) :
    (s.setChannel c ch).stations = s.stations := by cases c <;> rfl

@[simp] theorem State.setChannel_lapseTime (s : State) (c : ChannelId) (ch : Channel) :
    (s.setChannel c ch).lapseTime = s.lapseTime := by cases c <;> rfl

@[simp] theorem State.setChannel_handOff (s : State) (c : ChannelId) (ch : Channel) :
    (s.setChannel c ch).handOff = s.handOff := by cases c <;> rfl

@[simp] theorem State.setChannel_clock (s : State) (c : ChannelId) (ch : Channel) :
    (s.setChannel c ch).clock = s.clock := by cases c <;> rfl

@[simp] theorem State.setChannel_cues (s : State) (c : ChannelId) (ch : Channel) :
    (s.setChannel c ch).cues = s.cues := by cases c <;> rfl

@[simp] theorem State.setChannel_heads (s : State) (c : ChannelId) (ch : Channel) :
    (s.setChannel c ch).heads = s.heads := by cases c <;> rfl

@[simp] theorem State.setChannel_link (s : State) (c : ChannelId) (ch : Channel) :
    (s.setChannel c ch).link = s.link := by cases c <;> rfl

@[simp] theorem State.setChannel_started (s : State) (c : ChannelId) (ch : Channel) :
    (s.setChannel c ch).started = s.started := by cases c <;> rfl

@[simp] theorem State.setChannel_pending (s : State) (c : ChannelId) (ch : Channel) :
    (s.setChannel c ch).pending = s.pending := by cases c <;> rfl

@[simp] theorem State.setChannel_arbiter (s : State) (c : ChannelId) (ch : Channel) (d : ChannelId) :
    (s.setChannel c ch).arbiter d = s.arbiter d := by cases c <;> cases d <;> rfl

@[simp] theorem State.setChannel_station (s : State) (c : ChannelId) (ch : Channel) (q : Fin 4) :
    (s.setChannel c ch).station q = s.station q := by cases c <;> rfl

@[simp] theorem State.setChannel_head (s : State) (c : ChannelId) (ch : Channel) (q : Fin 4) :
    (s.setChannel c ch).head q = s.head q := by cases c <;> rfl

@[simp] theorem State.setChannel_output (s : State) (c : ChannelId) (ch : Channel) (q : Fin 4) :
    (s.setChannel c ch).output q = s.output q := by cases c <;> rfl

@[simp] theorem State.setChannel_story (s : State) (c : ChannelId) (ch : Channel) (i : Nat) :
    (s.setChannel c ch).story? i = s.story? i := by cases c <;> rfl

@[simp] theorem State.setChannel_isLive (s : State) (c : ChannelId) (ch : Channel) (i : Nat) :
    (s.setChannel c ch).isLive i = s.isLive i := by cases c <;> rfl

@[simp] theorem State.setChannel_readableAfter (s : State) (c : ChannelId) (ch : Channel) (i : Nat) :
    (s.setChannel c ch).readableAfter i = s.readableAfter i := by cases c <;> rfl

@[simp] theorem State.setChannel_readableBefore (s : State) (c : ChannelId) (ch : Channel) (i : Nat) :
    (s.setChannel c ch).readableBefore i = s.readableBefore i := by cases c <;> rfl

/-! ## `State.modChannel` leaves every other field as it was -/

@[simp] theorem State.modChannel_stories (s : State) (c : ChannelId) (f : Channel → Channel) :
    (s.modChannel c f).stories = s.stories := by cases c <;> rfl

@[simp] theorem State.modChannel_pt (s : State) (c : ChannelId) (f : Channel → Channel) :
    (s.modChannel c f).pt = s.pt := by cases c <;> rfl

@[simp] theorem State.modChannel_clearInProgress (s : State) (c : ChannelId) (f : Channel → Channel) :
    (s.modChannel c f).clearInProgress = s.clearInProgress := by cases c <;> rfl

@[simp] theorem State.modChannel_heights (s : State) (c : ChannelId) (f : Channel → Channel) :
    (s.modChannel c f).heights = s.heights := by cases c <;> rfl

@[simp] theorem State.modChannel_pendingHeights (s : State) (c : ChannelId) (f : Channel → Channel) :
    (s.modChannel c f).pendingHeights = s.pendingHeights := by cases c <;> rfl

@[simp] theorem State.modChannel_freeLines (s : State) (c : ChannelId) (f : Channel → Channel) :
    (s.modChannel c f).freeLines = s.freeLines := by cases c <;> rfl

@[simp] theorem State.modChannel_arbiterA (s : State) (c : ChannelId) (f : Channel → Channel) :
    (s.modChannel c f).arbiterA = s.arbiterA := by cases c <;> rfl

@[simp] theorem State.modChannel_arbiterB (s : State) (c : ChannelId) (f : Channel → Channel) :
    (s.modChannel c f).arbiterB = s.arbiterB := by cases c <;> rfl

@[simp] theorem State.modChannel_stations (s : State) (c : ChannelId) (f : Channel → Channel) :
    (s.modChannel c f).stations = s.stations := by cases c <;> rfl

@[simp] theorem State.modChannel_lapseTime (s : State) (c : ChannelId) (f : Channel → Channel) :
    (s.modChannel c f).lapseTime = s.lapseTime := by cases c <;> rfl

@[simp] theorem State.modChannel_handOff (s : State) (c : ChannelId) (f : Channel → Channel) :
    (s.modChannel c f).handOff = s.handOff := by cases c <;> rfl

@[simp] theorem State.modChannel_clock (s : State) (c : ChannelId) (f : Channel → Channel) :
    (s.modChannel c f).clock = s.clock := by cases c <;> rfl

@[simp] theorem State.modChannel_cues (s : State) (c : ChannelId) (f : Channel → Channel) :
    (s.modChannel c f).cues = s.cues := by cases c <;> rfl

@[simp] theorem State.modChannel_heads (s : State) (c : ChannelId) (f : Channel → Channel) :
    (s.modChannel c f).heads = s.heads := by cases c <;> rfl

@[simp] theorem State.modChannel_link (s : State) (c : ChannelId) (f : Channel → Channel) :
    (s.modChannel c f).link = s.link := by cases c <;> rfl

@[simp] theorem State.modChannel_started (s : State) (c : ChannelId) (f : Channel → Channel) :
    (s.modChannel c f).started = s.started := by cases c <;> rfl

@[simp] theorem State.modChannel_pending (s : State) (c : ChannelId) (f : Channel → Channel) :
    (s.modChannel c f).pending = s.pending := by cases c <;> rfl

@[simp] theorem State.modChannel_arbiter (s : State) (c : ChannelId) (f : Channel → Channel) (d : ChannelId) :
    (s.modChannel c f).arbiter d = s.arbiter d := by cases c <;> cases d <;> rfl

@[simp] theorem State.modChannel_station (s : State) (c : ChannelId) (f : Channel → Channel) (q : Fin 4) :
    (s.modChannel c f).station q = s.station q := by cases c <;> rfl

@[simp] theorem State.modChannel_head (s : State) (c : ChannelId) (f : Channel → Channel) (q : Fin 4) :
    (s.modChannel c f).head q = s.head q := by cases c <;> rfl

@[simp] theorem State.modChannel_output (s : State) (c : ChannelId) (f : Channel → Channel) (q : Fin 4) :
    (s.modChannel c f).output q = s.output q := by cases c <;> rfl

@[simp] theorem State.modChannel_story (s : State) (c : ChannelId) (f : Channel → Channel) (i : Nat) :
    (s.modChannel c f).story? i = s.story? i := by cases c <;> rfl

@[simp] theorem State.modChannel_isLive (s : State) (c : ChannelId) (f : Channel → Channel) (i : Nat) :
    (s.modChannel c f).isLive i = s.isLive i := by cases c <;> rfl

@[simp] theorem State.modChannel_readableAfter (s : State) (c : ChannelId) (f : Channel → Channel) (i : Nat) :
    (s.modChannel c f).readableAfter i = s.readableAfter i := by cases c <;> rfl

@[simp] theorem State.modChannel_readableBefore (s : State) (c : ChannelId) (f : Channel → Channel) (i : Nat) :
    (s.modChannel c f).readableBefore i = s.readableBefore i := by cases c <;> rfl

/-! ## `State.setArbiter` leaves every other field as it was -/

@[simp] theorem State.setArbiter_stories (s : State) (c : ChannelId) (r : Arbitration) :
    (s.setArbiter c r).stories = s.stories := by cases c <;> rfl

@[simp] theorem State.setArbiter_pt (s : State) (c : ChannelId) (r : Arbitration) :
    (s.setArbiter c r).pt = s.pt := by cases c <;> rfl

@[simp] theorem State.setArbiter_clearInProgress (s : State) (c : ChannelId) (r : Arbitration) :
    (s.setArbiter c r).clearInProgress = s.clearInProgress := by cases c <;> rfl

@[simp] theorem State.setArbiter_heights (s : State) (c : ChannelId) (r : Arbitration) :
    (s.setArbiter c r).heights = s.heights := by cases c <;> rfl

@[simp] theorem State.setArbiter_pendingHeights (s : State) (c : ChannelId) (r : Arbitration) :
    (s.setArbiter c r).pendingHeights = s.pendingHeights := by cases c <;> rfl

@[simp] theorem State.setArbiter_freeLines (s : State) (c : ChannelId) (r : Arbitration) :
    (s.setArbiter c r).freeLines = s.freeLines := by cases c <;> rfl

@[simp] theorem State.setArbiter_channelA (s : State) (c : ChannelId) (r : Arbitration) :
    (s.setArbiter c r).channelA = s.channelA := by cases c <;> rfl

@[simp] theorem State.setArbiter_channelB (s : State) (c : ChannelId) (r : Arbitration) :
    (s.setArbiter c r).channelB = s.channelB := by cases c <;> rfl

@[simp] theorem State.setArbiter_stations (s : State) (c : ChannelId) (r : Arbitration) :
    (s.setArbiter c r).stations = s.stations := by cases c <;> rfl

@[simp] theorem State.setArbiter_lapseTime (s : State) (c : ChannelId) (r : Arbitration) :
    (s.setArbiter c r).lapseTime = s.lapseTime := by cases c <;> rfl

@[simp] theorem State.setArbiter_handOff (s : State) (c : ChannelId) (r : Arbitration) :
    (s.setArbiter c r).handOff = s.handOff := by cases c <;> rfl

@[simp] theorem State.setArbiter_clock (s : State) (c : ChannelId) (r : Arbitration) :
    (s.setArbiter c r).clock = s.clock := by cases c <;> rfl

@[simp] theorem State.setArbiter_cues (s : State) (c : ChannelId) (r : Arbitration) :
    (s.setArbiter c r).cues = s.cues := by cases c <;> rfl

@[simp] theorem State.setArbiter_heads (s : State) (c : ChannelId) (r : Arbitration) :
    (s.setArbiter c r).heads = s.heads := by cases c <;> rfl

@[simp] theorem State.setArbiter_link (s : State) (c : ChannelId) (r : Arbitration) :
    (s.setArbiter c r).link = s.link := by cases c <;> rfl

@[simp] theorem State.setArbiter_started (s : State) (c : ChannelId) (r : Arbitration) :
    (s.setArbiter c r).started = s.started := by cases c <;> rfl

@[simp] theorem State.setArbiter_pending (s : State) (c : ChannelId) (r : Arbitration) :
    (s.setArbiter c r).pending = s.pending := by cases c <;> rfl

@[simp] theorem State.setArbiter_channel (s : State) (c : ChannelId) (r : Arbitration) (d : ChannelId) :
    (s.setArbiter c r).channel d = s.channel d := by cases c <;> cases d <;> rfl

@[simp] theorem State.setArbiter_station (s : State) (c : ChannelId) (r : Arbitration) (q : Fin 4) :
    (s.setArbiter c r).station q = s.station q := by cases c <;> rfl

@[simp] theorem State.setArbiter_head (s : State) (c : ChannelId) (r : Arbitration) (q : Fin 4) :
    (s.setArbiter c r).head q = s.head q := by cases c <;> rfl

@[simp] theorem State.setArbiter_output (s : State) (c : ChannelId) (r : Arbitration) (q : Fin 4) :
    (s.setArbiter c r).output q = s.output q := by cases c <;> rfl

@[simp] theorem State.setArbiter_story (s : State) (c : ChannelId) (r : Arbitration) (i : Nat) :
    (s.setArbiter c r).story? i = s.story? i := by cases c <;> rfl

@[simp] theorem State.setArbiter_isLive (s : State) (c : ChannelId) (r : Arbitration) (i : Nat) :
    (s.setArbiter c r).isLive i = s.isLive i := by cases c <;> rfl

@[simp] theorem State.setArbiter_readableAfter (s : State) (c : ChannelId) (r : Arbitration) (i : Nat) :
    (s.setArbiter c r).readableAfter i = s.readableAfter i := by cases c <;> rfl

@[simp] theorem State.setArbiter_readableBefore (s : State) (c : ChannelId) (r : Arbitration) (i : Nat) :
    (s.setArbiter c r).readableBefore i = s.readableBefore i := by cases c <;> rfl

/-! ## `State.modArbiter` leaves every other field as it was -/

@[simp] theorem State.modArbiter_stories (s : State) (c : ChannelId) (f : Arbitration → Arbitration) :
    (s.modArbiter c f).stories = s.stories := by cases c <;> rfl

@[simp] theorem State.modArbiter_pt (s : State) (c : ChannelId) (f : Arbitration → Arbitration) :
    (s.modArbiter c f).pt = s.pt := by cases c <;> rfl

@[simp] theorem State.modArbiter_clearInProgress (s : State) (c : ChannelId) (f : Arbitration → Arbitration) :
    (s.modArbiter c f).clearInProgress = s.clearInProgress := by cases c <;> rfl

@[simp] theorem State.modArbiter_heights (s : State) (c : ChannelId) (f : Arbitration → Arbitration) :
    (s.modArbiter c f).heights = s.heights := by cases c <;> rfl

@[simp] theorem State.modArbiter_pendingHeights (s : State) (c : ChannelId) (f : Arbitration → Arbitration) :
    (s.modArbiter c f).pendingHeights = s.pendingHeights := by cases c <;> rfl

@[simp] theorem State.modArbiter_freeLines (s : State) (c : ChannelId) (f : Arbitration → Arbitration) :
    (s.modArbiter c f).freeLines = s.freeLines := by cases c <;> rfl

@[simp] theorem State.modArbiter_channelA (s : State) (c : ChannelId) (f : Arbitration → Arbitration) :
    (s.modArbiter c f).channelA = s.channelA := by cases c <;> rfl

@[simp] theorem State.modArbiter_channelB (s : State) (c : ChannelId) (f : Arbitration → Arbitration) :
    (s.modArbiter c f).channelB = s.channelB := by cases c <;> rfl

@[simp] theorem State.modArbiter_stations (s : State) (c : ChannelId) (f : Arbitration → Arbitration) :
    (s.modArbiter c f).stations = s.stations := by cases c <;> rfl

@[simp] theorem State.modArbiter_lapseTime (s : State) (c : ChannelId) (f : Arbitration → Arbitration) :
    (s.modArbiter c f).lapseTime = s.lapseTime := by cases c <;> rfl

@[simp] theorem State.modArbiter_handOff (s : State) (c : ChannelId) (f : Arbitration → Arbitration) :
    (s.modArbiter c f).handOff = s.handOff := by cases c <;> rfl

@[simp] theorem State.modArbiter_clock (s : State) (c : ChannelId) (f : Arbitration → Arbitration) :
    (s.modArbiter c f).clock = s.clock := by cases c <;> rfl

@[simp] theorem State.modArbiter_cues (s : State) (c : ChannelId) (f : Arbitration → Arbitration) :
    (s.modArbiter c f).cues = s.cues := by cases c <;> rfl

@[simp] theorem State.modArbiter_heads (s : State) (c : ChannelId) (f : Arbitration → Arbitration) :
    (s.modArbiter c f).heads = s.heads := by cases c <;> rfl

@[simp] theorem State.modArbiter_link (s : State) (c : ChannelId) (f : Arbitration → Arbitration) :
    (s.modArbiter c f).link = s.link := by cases c <;> rfl

@[simp] theorem State.modArbiter_started (s : State) (c : ChannelId) (f : Arbitration → Arbitration) :
    (s.modArbiter c f).started = s.started := by cases c <;> rfl

@[simp] theorem State.modArbiter_pending (s : State) (c : ChannelId) (f : Arbitration → Arbitration) :
    (s.modArbiter c f).pending = s.pending := by cases c <;> rfl

@[simp] theorem State.modArbiter_channel (s : State) (c : ChannelId) (f : Arbitration → Arbitration) (d : ChannelId) :
    (s.modArbiter c f).channel d = s.channel d := by cases c <;> cases d <;> rfl

@[simp] theorem State.modArbiter_station (s : State) (c : ChannelId) (f : Arbitration → Arbitration) (q : Fin 4) :
    (s.modArbiter c f).station q = s.station q := by cases c <;> rfl

@[simp] theorem State.modArbiter_head (s : State) (c : ChannelId) (f : Arbitration → Arbitration) (q : Fin 4) :
    (s.modArbiter c f).head q = s.head q := by cases c <;> rfl

@[simp] theorem State.modArbiter_output (s : State) (c : ChannelId) (f : Arbitration → Arbitration) (q : Fin 4) :
    (s.modArbiter c f).output q = s.output q := by cases c <;> rfl

@[simp] theorem State.modArbiter_story (s : State) (c : ChannelId) (f : Arbitration → Arbitration) (i : Nat) :
    (s.modArbiter c f).story? i = s.story? i := by cases c <;> rfl

@[simp] theorem State.modArbiter_isLive (s : State) (c : ChannelId) (f : Arbitration → Arbitration) (i : Nat) :
    (s.modArbiter c f).isLive i = s.isLive i := by cases c <;> rfl

@[simp] theorem State.modArbiter_readableAfter (s : State) (c : ChannelId) (f : Arbitration → Arbitration) (i : Nat) :
    (s.modArbiter c f).readableAfter i = s.readableAfter i := by cases c <;> rfl

@[simp] theorem State.modArbiter_readableBefore (s : State) (c : ChannelId) (f : Arbitration → Arbitration) (i : Nat) :
    (s.modArbiter c f).readableBefore i = s.readableBefore i := by cases c <;> rfl

/-! ## `State.modStation` leaves every other field as it was -/

@[simp] theorem State.modStation_stories (s : State) (p : Fin 4) (f : Station → Station) :
    (s.modStation p f).stories = s.stories := rfl

@[simp] theorem State.modStation_pt (s : State) (p : Fin 4) (f : Station → Station) :
    (s.modStation p f).pt = s.pt := rfl

@[simp] theorem State.modStation_clearInProgress (s : State) (p : Fin 4) (f : Station → Station) :
    (s.modStation p f).clearInProgress = s.clearInProgress := rfl

@[simp] theorem State.modStation_heights (s : State) (p : Fin 4) (f : Station → Station) :
    (s.modStation p f).heights = s.heights := rfl

@[simp] theorem State.modStation_pendingHeights (s : State) (p : Fin 4) (f : Station → Station) :
    (s.modStation p f).pendingHeights = s.pendingHeights := rfl

@[simp] theorem State.modStation_freeLines (s : State) (p : Fin 4) (f : Station → Station) :
    (s.modStation p f).freeLines = s.freeLines := rfl

@[simp] theorem State.modStation_channelA (s : State) (p : Fin 4) (f : Station → Station) :
    (s.modStation p f).channelA = s.channelA := rfl

@[simp] theorem State.modStation_channelB (s : State) (p : Fin 4) (f : Station → Station) :
    (s.modStation p f).channelB = s.channelB := rfl

@[simp] theorem State.modStation_arbiterA (s : State) (p : Fin 4) (f : Station → Station) :
    (s.modStation p f).arbiterA = s.arbiterA := rfl

@[simp] theorem State.modStation_arbiterB (s : State) (p : Fin 4) (f : Station → Station) :
    (s.modStation p f).arbiterB = s.arbiterB := rfl

@[simp] theorem State.modStation_lapseTime (s : State) (p : Fin 4) (f : Station → Station) :
    (s.modStation p f).lapseTime = s.lapseTime := rfl

@[simp] theorem State.modStation_handOff (s : State) (p : Fin 4) (f : Station → Station) :
    (s.modStation p f).handOff = s.handOff := rfl

@[simp] theorem State.modStation_clock (s : State) (p : Fin 4) (f : Station → Station) :
    (s.modStation p f).clock = s.clock := rfl

@[simp] theorem State.modStation_cues (s : State) (p : Fin 4) (f : Station → Station) :
    (s.modStation p f).cues = s.cues := rfl

@[simp] theorem State.modStation_heads (s : State) (p : Fin 4) (f : Station → Station) :
    (s.modStation p f).heads = s.heads := rfl

@[simp] theorem State.modStation_link (s : State) (p : Fin 4) (f : Station → Station) :
    (s.modStation p f).link = s.link := rfl

@[simp] theorem State.modStation_started (s : State) (p : Fin 4) (f : Station → Station) :
    (s.modStation p f).started = s.started := rfl

@[simp] theorem State.modStation_pending (s : State) (p : Fin 4) (f : Station → Station) :
    (s.modStation p f).pending = s.pending := rfl

@[simp] theorem State.modStation_channel (s : State) (p : Fin 4) (f : Station → Station) (d : ChannelId) :
    (s.modStation p f).channel d = s.channel d := by cases d <;> rfl

@[simp] theorem State.modStation_arbiter (s : State) (p : Fin 4) (f : Station → Station) (d : ChannelId) :
    (s.modStation p f).arbiter d = s.arbiter d := by cases d <;> rfl

@[simp] theorem State.modStation_head (s : State) (p : Fin 4) (f : Station → Station) (q : Fin 4) :
    (s.modStation p f).head q = s.head q := rfl

@[simp] theorem State.modStation_output (s : State) (p : Fin 4) (f : Station → Station) (q : Fin 4) :
    (s.modStation p f).output q = s.output q := rfl

@[simp] theorem State.modStation_story (s : State) (p : Fin 4) (f : Station → Station) (i : Nat) :
    (s.modStation p f).story? i = s.story? i := rfl

@[simp] theorem State.modStation_isLive (s : State) (p : Fin 4) (f : Station → Station) (i : Nat) :
    (s.modStation p f).isLive i = s.isLive i := rfl

@[simp] theorem State.modStation_readableAfter (s : State) (p : Fin 4) (f : Station → Station) (i : Nat) :
    (s.modStation p f).readableAfter i = s.readableAfter i := rfl

@[simp] theorem State.modStation_readableBefore (s : State) (p : Fin 4) (f : Station → Station) (i : Nat) :
    (s.modStation p f).readableBefore i = s.readableBefore i := rfl

/-! ## `State.modHead` leaves every other field as it was -/

@[simp] theorem State.modHead_stories (s : State) (h : Fin 4) (f : Head → Head) :
    (s.modHead h f).stories = s.stories := rfl

@[simp] theorem State.modHead_pt (s : State) (h : Fin 4) (f : Head → Head) :
    (s.modHead h f).pt = s.pt := rfl

@[simp] theorem State.modHead_clearInProgress (s : State) (h : Fin 4) (f : Head → Head) :
    (s.modHead h f).clearInProgress = s.clearInProgress := rfl

@[simp] theorem State.modHead_heights (s : State) (h : Fin 4) (f : Head → Head) :
    (s.modHead h f).heights = s.heights := rfl

@[simp] theorem State.modHead_pendingHeights (s : State) (h : Fin 4) (f : Head → Head) :
    (s.modHead h f).pendingHeights = s.pendingHeights := rfl

@[simp] theorem State.modHead_freeLines (s : State) (h : Fin 4) (f : Head → Head) :
    (s.modHead h f).freeLines = s.freeLines := rfl

@[simp] theorem State.modHead_channelA (s : State) (h : Fin 4) (f : Head → Head) :
    (s.modHead h f).channelA = s.channelA := rfl

@[simp] theorem State.modHead_channelB (s : State) (h : Fin 4) (f : Head → Head) :
    (s.modHead h f).channelB = s.channelB := rfl

@[simp] theorem State.modHead_arbiterA (s : State) (h : Fin 4) (f : Head → Head) :
    (s.modHead h f).arbiterA = s.arbiterA := rfl

@[simp] theorem State.modHead_arbiterB (s : State) (h : Fin 4) (f : Head → Head) :
    (s.modHead h f).arbiterB = s.arbiterB := rfl

@[simp] theorem State.modHead_stations (s : State) (h : Fin 4) (f : Head → Head) :
    (s.modHead h f).stations = s.stations := rfl

@[simp] theorem State.modHead_lapseTime (s : State) (h : Fin 4) (f : Head → Head) :
    (s.modHead h f).lapseTime = s.lapseTime := rfl

@[simp] theorem State.modHead_handOff (s : State) (h : Fin 4) (f : Head → Head) :
    (s.modHead h f).handOff = s.handOff := rfl

@[simp] theorem State.modHead_clock (s : State) (h : Fin 4) (f : Head → Head) :
    (s.modHead h f).clock = s.clock := rfl

@[simp] theorem State.modHead_cues (s : State) (h : Fin 4) (f : Head → Head) :
    (s.modHead h f).cues = s.cues := rfl

@[simp] theorem State.modHead_link (s : State) (h : Fin 4) (f : Head → Head) :
    (s.modHead h f).link = s.link := rfl

@[simp] theorem State.modHead_started (s : State) (h : Fin 4) (f : Head → Head) :
    (s.modHead h f).started = s.started := rfl

@[simp] theorem State.modHead_pending (s : State) (h : Fin 4) (f : Head → Head) :
    (s.modHead h f).pending = s.pending := rfl

@[simp] theorem State.modHead_channel (s : State) (h : Fin 4) (f : Head → Head) (d : ChannelId) :
    (s.modHead h f).channel d = s.channel d := by cases d <;> rfl

@[simp] theorem State.modHead_arbiter (s : State) (h : Fin 4) (f : Head → Head) (d : ChannelId) :
    (s.modHead h f).arbiter d = s.arbiter d := by cases d <;> rfl

@[simp] theorem State.modHead_station (s : State) (h : Fin 4) (f : Head → Head) (q : Fin 4) :
    (s.modHead h f).station q = s.station q := rfl

@[simp] theorem State.modHead_output (s : State) (h : Fin 4) (f : Head → Head) (q : Fin 4) :
    (s.modHead h f).output q = s.output q := rfl

@[simp] theorem State.modHead_story (s : State) (h : Fin 4) (f : Head → Head) (i : Nat) :
    (s.modHead h f).story? i = s.story? i := rfl

@[simp] theorem State.modHead_isLive (s : State) (h : Fin 4) (f : Head → Head) (i : Nat) :
    (s.modHead h f).isLive i = s.isLive i := rfl

@[simp] theorem State.modHead_readableAfter (s : State) (h : Fin 4) (f : Head → Head) (i : Nat) :
    (s.modHead h f).readableAfter i = s.readableAfter i := rfl

@[simp] theorem State.modHead_readableBefore (s : State) (h : Fin 4) (f : Head → Head) (i : Nat) :
    (s.modHead h f).readableBefore i = s.readableBefore i := rfl

/-! ## `State.modOutput` leaves every other field as it was -/

@[simp] theorem State.modOutput_stories (s : State) (o : Fin 4) (f : CueOutput → CueOutput) :
    (s.modOutput o f).stories = s.stories := rfl

@[simp] theorem State.modOutput_pt (s : State) (o : Fin 4) (f : CueOutput → CueOutput) :
    (s.modOutput o f).pt = s.pt := rfl

@[simp] theorem State.modOutput_clearInProgress (s : State) (o : Fin 4) (f : CueOutput → CueOutput) :
    (s.modOutput o f).clearInProgress = s.clearInProgress := rfl

@[simp] theorem State.modOutput_heights (s : State) (o : Fin 4) (f : CueOutput → CueOutput) :
    (s.modOutput o f).heights = s.heights := rfl

@[simp] theorem State.modOutput_pendingHeights (s : State) (o : Fin 4) (f : CueOutput → CueOutput) :
    (s.modOutput o f).pendingHeights = s.pendingHeights := rfl

@[simp] theorem State.modOutput_freeLines (s : State) (o : Fin 4) (f : CueOutput → CueOutput) :
    (s.modOutput o f).freeLines = s.freeLines := rfl

@[simp] theorem State.modOutput_channelA (s : State) (o : Fin 4) (f : CueOutput → CueOutput) :
    (s.modOutput o f).channelA = s.channelA := rfl

@[simp] theorem State.modOutput_channelB (s : State) (o : Fin 4) (f : CueOutput → CueOutput) :
    (s.modOutput o f).channelB = s.channelB := rfl

@[simp] theorem State.modOutput_arbiterA (s : State) (o : Fin 4) (f : CueOutput → CueOutput) :
    (s.modOutput o f).arbiterA = s.arbiterA := rfl

@[simp] theorem State.modOutput_arbiterB (s : State) (o : Fin 4) (f : CueOutput → CueOutput) :
    (s.modOutput o f).arbiterB = s.arbiterB := rfl

@[simp] theorem State.modOutput_stations (s : State) (o : Fin 4) (f : CueOutput → CueOutput) :
    (s.modOutput o f).stations = s.stations := rfl

@[simp] theorem State.modOutput_lapseTime (s : State) (o : Fin 4) (f : CueOutput → CueOutput) :
    (s.modOutput o f).lapseTime = s.lapseTime := rfl

@[simp] theorem State.modOutput_handOff (s : State) (o : Fin 4) (f : CueOutput → CueOutput) :
    (s.modOutput o f).handOff = s.handOff := rfl

@[simp] theorem State.modOutput_clock (s : State) (o : Fin 4) (f : CueOutput → CueOutput) :
    (s.modOutput o f).clock = s.clock := rfl

@[simp] theorem State.modOutput_heads (s : State) (o : Fin 4) (f : CueOutput → CueOutput) :
    (s.modOutput o f).heads = s.heads := rfl

@[simp] theorem State.modOutput_link (s : State) (o : Fin 4) (f : CueOutput → CueOutput) :
    (s.modOutput o f).link = s.link := rfl

@[simp] theorem State.modOutput_started (s : State) (o : Fin 4) (f : CueOutput → CueOutput) :
    (s.modOutput o f).started = s.started := rfl

@[simp] theorem State.modOutput_pending (s : State) (o : Fin 4) (f : CueOutput → CueOutput) :
    (s.modOutput o f).pending = s.pending := rfl

@[simp] theorem State.modOutput_channel (s : State) (o : Fin 4) (f : CueOutput → CueOutput) (d : ChannelId) :
    (s.modOutput o f).channel d = s.channel d := by cases d <;> rfl

@[simp] theorem State.modOutput_arbiter (s : State) (o : Fin 4) (f : CueOutput → CueOutput) (d : ChannelId) :
    (s.modOutput o f).arbiter d = s.arbiter d := by cases d <;> rfl

@[simp] theorem State.modOutput_station (s : State) (o : Fin 4) (f : CueOutput → CueOutput) (q : Fin 4) :
    (s.modOutput o f).station q = s.station q := rfl

@[simp] theorem State.modOutput_head (s : State) (o : Fin 4) (f : CueOutput → CueOutput) (q : Fin 4) :
    (s.modOutput o f).head q = s.head q := rfl

@[simp] theorem State.modOutput_story (s : State) (o : Fin 4) (f : CueOutput → CueOutput) (i : Nat) :
    (s.modOutput o f).story? i = s.story? i := rfl

@[simp] theorem State.modOutput_isLive (s : State) (o : Fin 4) (f : CueOutput → CueOutput) (i : Nat) :
    (s.modOutput o f).isLive i = s.isLive i := rfl

@[simp] theorem State.modOutput_readableAfter (s : State) (o : Fin 4) (f : CueOutput → CueOutput) (i : Nat) :
    (s.modOutput o f).readableAfter i = s.readableAfter i := rfl

@[simp] theorem State.modOutput_readableBefore (s : State) (o : Fin 4) (f : CueOutput → CueOutput) (i : Nat) :
    (s.modOutput o f).readableBefore i = s.readableBefore i := rfl

/-! ## `State.modStory` leaves every other field as it was -/

@[simp] theorem State.modStory_pt (s : State) (id : Nat) (f : Story → Story) :
    (s.modStory id f).pt = s.pt := rfl

@[simp] theorem State.modStory_clearInProgress (s : State) (id : Nat) (f : Story → Story) :
    (s.modStory id f).clearInProgress = s.clearInProgress := rfl

@[simp] theorem State.modStory_heights (s : State) (id : Nat) (f : Story → Story) :
    (s.modStory id f).heights = s.heights := rfl

@[simp] theorem State.modStory_pendingHeights (s : State) (id : Nat) (f : Story → Story) :
    (s.modStory id f).pendingHeights = s.pendingHeights := rfl

@[simp] theorem State.modStory_freeLines (s : State) (id : Nat) (f : Story → Story) :
    (s.modStory id f).freeLines = s.freeLines := rfl

@[simp] theorem State.modStory_channelA (s : State) (id : Nat) (f : Story → Story) :
    (s.modStory id f).channelA = s.channelA := rfl

@[simp] theorem State.modStory_channelB (s : State) (id : Nat) (f : Story → Story) :
    (s.modStory id f).channelB = s.channelB := rfl

@[simp] theorem State.modStory_arbiterA (s : State) (id : Nat) (f : Story → Story) :
    (s.modStory id f).arbiterA = s.arbiterA := rfl

@[simp] theorem State.modStory_arbiterB (s : State) (id : Nat) (f : Story → Story) :
    (s.modStory id f).arbiterB = s.arbiterB := rfl

@[simp] theorem State.modStory_stations (s : State) (id : Nat) (f : Story → Story) :
    (s.modStory id f).stations = s.stations := rfl

@[simp] theorem State.modStory_lapseTime (s : State) (id : Nat) (f : Story → Story) :
    (s.modStory id f).lapseTime = s.lapseTime := rfl

@[simp] theorem State.modStory_handOff (s : State) (id : Nat) (f : Story → Story) :
    (s.modStory id f).handOff = s.handOff := rfl

@[simp] theorem State.modStory_clock (s : State) (id : Nat) (f : Story → Story) :
    (s.modStory id f).clock = s.clock := rfl

@[simp] theorem State.modStory_cues (s : State) (id : Nat) (f : Story → Story) :
    (s.modStory id f).cues = s.cues := rfl

@[simp] theorem State.modStory_heads (s : State) (id : Nat) (f : Story → Story) :
    (s.modStory id f).heads = s.heads := rfl

@[simp] theorem State.modStory_link (s : State) (id : Nat) (f : Story → Story) :
    (s.modStory id f).link = s.link := rfl

@[simp] theorem State.modStory_started (s : State) (id : Nat) (f : Story → Story) :
    (s.modStory id f).started = s.started := rfl

@[simp] theorem State.modStory_pending (s : State) (id : Nat) (f : Story → Story) :
    (s.modStory id f).pending = s.pending := rfl

@[simp] theorem State.modStory_channel (s : State) (id : Nat) (f : Story → Story) (d : ChannelId) :
    (s.modStory id f).channel d = s.channel d := by cases d <;> rfl

@[simp] theorem State.modStory_arbiter (s : State) (id : Nat) (f : Story → Story) (d : ChannelId) :
    (s.modStory id f).arbiter d = s.arbiter d := by cases d <;> rfl

@[simp] theorem State.modStory_station (s : State) (id : Nat) (f : Story → Story) (q : Fin 4) :
    (s.modStory id f).station q = s.station q := rfl

@[simp] theorem State.modStory_head (s : State) (id : Nat) (f : Story → Story) (q : Fin 4) :
    (s.modStory id f).head q = s.head q := rfl

@[simp] theorem State.modStory_output (s : State) (id : Nat) (f : Story → Story) (q : Fin 4) :
    (s.modStory id f).output q = s.output q := rfl

/-! ## `State.place` leaves every other field as it was -/

@[simp] theorem State.place_stories (s : State) (c : ChannelId) (rp : ReadPoint) :
    (s.place c rp).stories = s.stories := by cases c <;> rfl

@[simp] theorem State.place_pt (s : State) (c : ChannelId) (rp : ReadPoint) :
    (s.place c rp).pt = s.pt := by cases c <;> rfl

@[simp] theorem State.place_clearInProgress (s : State) (c : ChannelId) (rp : ReadPoint) :
    (s.place c rp).clearInProgress = s.clearInProgress := by cases c <;> rfl

@[simp] theorem State.place_heights (s : State) (c : ChannelId) (rp : ReadPoint) :
    (s.place c rp).heights = s.heights := by cases c <;> rfl

@[simp] theorem State.place_pendingHeights (s : State) (c : ChannelId) (rp : ReadPoint) :
    (s.place c rp).pendingHeights = s.pendingHeights := by cases c <;> rfl

@[simp] theorem State.place_freeLines (s : State) (c : ChannelId) (rp : ReadPoint) :
    (s.place c rp).freeLines = s.freeLines := by cases c <;> rfl

@[simp] theorem State.place_arbiterA (s : State) (c : ChannelId) (rp : ReadPoint) :
    (s.place c rp).arbiterA = s.arbiterA := by cases c <;> rfl

@[simp] theorem State.place_arbiterB (s : State) (c : ChannelId) (rp : ReadPoint) :
    (s.place c rp).arbiterB = s.arbiterB := by cases c <;> rfl

@[simp] theorem State.place_stations (s : State) (c : ChannelId) (rp : ReadPoint) :
    (s.place c rp).stations = s.stations := by cases c <;> rfl

@[simp] theorem State.place_lapseTime (s : State) (c : ChannelId) (rp : ReadPoint) :
    (s.place c rp).lapseTime = s.lapseTime := by cases c <;> rfl

@[simp] theorem State.place_handOff (s : State) (c : ChannelId) (rp : ReadPoint) :
    (s.place c rp).handOff = s.handOff := by cases c <;> rfl

@[simp] theorem State.place_clock (s : State) (c : ChannelId) (rp : ReadPoint) :
    (s.place c rp).clock = s.clock := by cases c <;> rfl

@[simp] theorem State.place_cues (s : State) (c : ChannelId) (rp : ReadPoint) :
    (s.place c rp).cues = s.cues := by cases c <;> rfl

@[simp] theorem State.place_heads (s : State) (c : ChannelId) (rp : ReadPoint) :
    (s.place c rp).heads = s.heads := by cases c <;> rfl

@[simp] theorem State.place_link (s : State) (c : ChannelId) (rp : ReadPoint) :
    (s.place c rp).link = s.link := by cases c <;> rfl

@[simp] theorem State.place_started (s : State) (c : ChannelId) (rp : ReadPoint) :
    (s.place c rp).started = s.started := by cases c <;> rfl

@[simp] theorem State.place_pending (s : State) (c : ChannelId) (rp : ReadPoint) :
    (s.place c rp).pending = s.pending := by cases c <;> rfl

@[simp] theorem State.place_arbiter (s : State) (c : ChannelId) (rp : ReadPoint) (d : ChannelId) :
    (s.place c rp).arbiter d = s.arbiter d := by cases c <;> cases d <;> rfl

@[simp] theorem State.place_station (s : State) (c : ChannelId) (rp : ReadPoint) (q : Fin 4) :
    (s.place c rp).station q = s.station q := by cases c <;> rfl

@[simp] theorem State.place_head (s : State) (c : ChannelId) (rp : ReadPoint) (q : Fin 4) :
    (s.place c rp).head q = s.head q := by cases c <;> rfl

@[simp] theorem State.place_output (s : State) (c : ChannelId) (rp : ReadPoint) (q : Fin 4) :
    (s.place c rp).output q = s.output q := by cases c <;> rfl

@[simp] theorem State.place_story (s : State) (c : ChannelId) (rp : ReadPoint) (i : Nat) :
    (s.place c rp).story? i = s.story? i := by cases c <;> rfl

@[simp] theorem State.place_isLive (s : State) (c : ChannelId) (rp : ReadPoint) (i : Nat) :
    (s.place c rp).isLive i = s.isLive i := by cases c <;> rfl

@[simp] theorem State.place_readableAfter (s : State) (c : ChannelId) (rp : ReadPoint) (i : Nat) :
    (s.place c rp).readableAfter i = s.readableAfter i := by cases c <;> rfl

@[simp] theorem State.place_readableBefore (s : State) (c : ChannelId) (rp : ReadPoint) (i : Nat) :
    (s.place c rp).readableBefore i = s.readableBefore i := by cases c <;> rfl

/-! ## `State.respond` leaves every other field as it was -/

@[simp] theorem State.respond_stories (s : State) (st : Status) (e : Byte) (p : Payload) :
    (s.respond st e p).stories = s.stories := rfl

@[simp] theorem State.respond_pt (s : State) (st : Status) (e : Byte) (p : Payload) :
    (s.respond st e p).pt = s.pt := rfl

@[simp] theorem State.respond_clearInProgress (s : State) (st : Status) (e : Byte) (p : Payload) :
    (s.respond st e p).clearInProgress = s.clearInProgress := rfl

@[simp] theorem State.respond_heights (s : State) (st : Status) (e : Byte) (p : Payload) :
    (s.respond st e p).heights = s.heights := rfl

@[simp] theorem State.respond_pendingHeights (s : State) (st : Status) (e : Byte) (p : Payload) :
    (s.respond st e p).pendingHeights = s.pendingHeights := rfl

@[simp] theorem State.respond_freeLines (s : State) (st : Status) (e : Byte) (p : Payload) :
    (s.respond st e p).freeLines = s.freeLines := rfl

@[simp] theorem State.respond_channelA (s : State) (st : Status) (e : Byte) (p : Payload) :
    (s.respond st e p).channelA = s.channelA := rfl

@[simp] theorem State.respond_channelB (s : State) (st : Status) (e : Byte) (p : Payload) :
    (s.respond st e p).channelB = s.channelB := rfl

@[simp] theorem State.respond_arbiterA (s : State) (st : Status) (e : Byte) (p : Payload) :
    (s.respond st e p).arbiterA = s.arbiterA := rfl

@[simp] theorem State.respond_arbiterB (s : State) (st : Status) (e : Byte) (p : Payload) :
    (s.respond st e p).arbiterB = s.arbiterB := rfl

@[simp] theorem State.respond_stations (s : State) (st : Status) (e : Byte) (p : Payload) :
    (s.respond st e p).stations = s.stations := rfl

@[simp] theorem State.respond_lapseTime (s : State) (st : Status) (e : Byte) (p : Payload) :
    (s.respond st e p).lapseTime = s.lapseTime := rfl

@[simp] theorem State.respond_handOff (s : State) (st : Status) (e : Byte) (p : Payload) :
    (s.respond st e p).handOff = s.handOff := rfl

@[simp] theorem State.respond_clock (s : State) (st : Status) (e : Byte) (p : Payload) :
    (s.respond st e p).clock = s.clock := rfl

@[simp] theorem State.respond_cues (s : State) (st : Status) (e : Byte) (p : Payload) :
    (s.respond st e p).cues = s.cues := rfl

@[simp] theorem State.respond_heads (s : State) (st : Status) (e : Byte) (p : Payload) :
    (s.respond st e p).heads = s.heads := rfl

@[simp] theorem State.respond_started (s : State) (st : Status) (e : Byte) (p : Payload) :
    (s.respond st e p).started = s.started := rfl

@[simp] theorem State.respond_pending (s : State) (st : Status) (e : Byte) (p : Payload) :
    (s.respond st e p).pending = s.pending := rfl

@[simp] theorem State.respond_channel (s : State) (st : Status) (e : Byte) (p : Payload) (d : ChannelId) :
    (s.respond st e p).channel d = s.channel d := by cases d <;> rfl

@[simp] theorem State.respond_arbiter (s : State) (st : Status) (e : Byte) (p : Payload) (d : ChannelId) :
    (s.respond st e p).arbiter d = s.arbiter d := by cases d <;> rfl

@[simp] theorem State.respond_station (s : State) (st : Status) (e : Byte) (p : Payload) (q : Fin 4) :
    (s.respond st e p).station q = s.station q := rfl

@[simp] theorem State.respond_head (s : State) (st : Status) (e : Byte) (p : Payload) (q : Fin 4) :
    (s.respond st e p).head q = s.head q := rfl

@[simp] theorem State.respond_output (s : State) (st : Status) (e : Byte) (p : Payload) (q : Fin 4) :
    (s.respond st e p).output q = s.output q := rfl

@[simp] theorem State.respond_story (s : State) (st : Status) (e : Byte) (p : Payload) (i : Nat) :
    (s.respond st e p).story? i = s.story? i := rfl

@[simp] theorem State.respond_isLive (s : State) (st : Status) (e : Byte) (p : Payload) (i : Nat) :
    (s.respond st e p).isLive i = s.isLive i := rfl

@[simp] theorem State.respond_readableAfter (s : State) (st : Status) (e : Byte) (p : Payload) (i : Nat) :
    (s.respond st e p).readableAfter i = s.readableAfter i := rfl

@[simp] theorem State.respond_readableBefore (s : State) (st : Status) (e : Byte) (p : Payload) (i : Nat) :
    (s.respond st e p).readableBefore i = s.readableBefore i := rfl

/-! ## What the updates write -/

@[simp] theorem State.setChannel_same (s : State) (c : ChannelId) (ch : Channel) :
    (s.setChannel c ch).channel c = ch := by cases c <;> rfl

theorem State.setChannel_other (s : State) {c d : ChannelId} (h : d ≠ c) (ch : Channel) :
    (s.setChannel c ch).channel d = s.channel d := by cases c <;> cases d <;> first | rfl | exact absurd rfl h

@[simp] theorem State.modChannel_same (s : State) (c : ChannelId) (f : Channel → Channel) :
    (s.modChannel c f).channel c = f (s.channel c) := by cases c <;> rfl

theorem State.modChannel_other (s : State) {c d : ChannelId} (h : d ≠ c) (f : Channel → Channel) :
    (s.modChannel c f).channel d = s.channel d := by cases c <;> cases d <;> first | rfl | exact absurd rfl h

@[simp] theorem State.modChannel_modChannel (s : State) (c : ChannelId) (f g : Channel → Channel) :
    (s.modChannel c f).modChannel c g = s.modChannel c (fun ch => g (f ch)) := by cases c <;> rfl

@[simp] theorem State.place_same (s : State) (c : ChannelId) (rp : ReadPoint) :
    (s.place c rp).channel c = { s.channel c with readPoint := some rp } := by cases c <;> rfl

theorem State.place_other (s : State) {c d : ChannelId} (h : d ≠ c) (rp : ReadPoint) :
    (s.place c rp).channel d = s.channel d := State.modChannel_other s h _

@[simp] theorem State.modArbiter_same (s : State) (c : ChannelId) (f : Arbitration → Arbitration) :
    (s.modArbiter c f).arbiter c = f (s.arbiter c) := by cases c <;> rfl

theorem State.modArbiter_other (s : State) {c d : ChannelId} (h : d ≠ c) (f : Arbitration → Arbitration) :
    (s.modArbiter c f).arbiter d = s.arbiter d := by cases c <;> cases d <;> first | rfl | exact absurd rfl h

@[simp] theorem State.modStation_same (s : State) (p : Fin 4) (f : Station → Station) :
    (s.modStation p f).station p = f (s.station p) := by simp [State.modStation, State.station]

theorem State.modStation_other (s : State) {p q : Fin 4} (h : q ≠ p) (f : Station → Station) :
    (s.modStation p f).station q = s.station q := by
  have : (p : Nat) ≠ q := fun e => h (Fin.ext e.symm)
  simp [State.modStation, State.station, this]

@[simp] theorem State.modHead_same (s : State) (h : Fin 4) (f : Head → Head) :
    (s.modHead h f).head h = f (s.head h) := by simp [State.modHead, State.head]

theorem State.modHead_other (s : State) {p q : Fin 4} (h : q ≠ p) (f : Head → Head) :
    (s.modHead p f).head q = s.head q := by
  have : (p : Nat) ≠ q := fun e => h (Fin.ext e.symm)
  simp [State.modHead, State.head, this]

@[simp] theorem State.modOutput_same (s : State) (o : Fin 4) (f : CueOutput → CueOutput) :
    (s.modOutput o f).output o = f (s.output o) := by simp [State.modOutput, State.output]

theorem State.modOutput_other (s : State) {p q : Fin 4} (h : q ≠ p) (f : CueOutput → CueOutput) :
    (s.modOutput p f).output q = s.output q := by
  have : (p : Nat) ≠ q := fun e => h (Fin.ext e.symm)
  simp [State.modOutput, State.output, this]

@[simp] theorem State.respond_link (s : State) (st : Status) (e : Byte) (p : Payload) :
    (s.respond st e p).link = { s.link with state := .answering ⟨st, e, p⟩ } := rfl

/-- Two states with the same fields are the same state; a proof about a whole state goes field by field. -/
theorem State.eq_of_fields {s t : State} (h1 : s.stories = t.stories) (h2 : s.pt = t.pt)
    (h3 : s.clearInProgress = t.clearInProgress) (h4 : s.heights = t.heights)
    (h5 : s.pendingHeights = t.pendingHeights) (h6 : s.freeLines = t.freeLines) (h7 : s.channelA = t.channelA)
    (h8 : s.channelB = t.channelB) (h9 : s.arbiterA = t.arbiterA) (h10 : s.arbiterB = t.arbiterB)
    (h11 : s.stations = t.stations) (h12 : s.lapseTime = t.lapseTime) (h13 : s.handOff = t.handOff)
    (h14 : s.clock = t.clock) (h15 : s.cues = t.cues) (h16 : s.heads = t.heads) (h17 : s.link = t.link)
    (h18 : s.started = t.started) (h19 : s.pending = t.pending) : s = t := by
  cases s; cases t; simp_all

end Sys2Proof.Machine
end

