-- ==== Sys2Proof/Laws/Receiver.lean ====
section
/-! SUPPORT. What the gateway receiver does with a whole frame (R163, R164): a proof about a gateway row cites these and
never steps through characters. -/

namespace Sys2Proof.Machine

/-- The receiver at rest, as it stands after every frame. -/
def State.hunting (s : State) : State := { s with link := { s.link with rx := .hunting, gap := none } }

theorem State.hunting_eq_self {s : State} (hr : s.link.rx = .hunting) (hg : s.link.gap = none) : s.hunting = s := by
  cases s with
  | mk =>
    rename_i link _ _
    cases link
    simp_all [State.hunting]

theorem gatewayChars_nil (s : State) : gatewayChars [] s = s := rfl

theorem gatewayChars_cons (c : LineChar) (cs : List LineChar) (s : State) :
    gatewayChars (c :: cs) s = gatewayChars cs (gatewayChar c s) := rfl

theorem gatewayChars_append (cs ds : List LineChar) (s : State) :
    gatewayChars (cs ++ ds) s = gatewayChars ds (gatewayChars cs s) := List.foldl_append

/-- Before start-up completes every character is discarded (R175). -/
theorem gatewayChar_before_start {s : State} (h : s.started = false) (c : LineChar) : gatewayChar c s = s := by
  simp [gatewayChar, h]

theorem gatewayChars_before_start {s : State} (h : s.started = false) (cs : List LineChar) : gatewayChars cs s = s := by
  induction cs with
  | nil => rfl
  | cons c cs ih => rw [gatewayChars_cons, gatewayChar_before_start h, ih]

/-- A start marker begins a frame. -/
theorem gatewayChar_marker {s : State} (hs : s.started = true) (hr : s.link.rx = .hunting) :
    gatewayChar (goodChar 0x7E) s = { s with link := { s.link with rx := .marker, gap := some 20 } } := by
  simp [gatewayChar, hs, hr, GatewayRx.feed, goodChar, GatewayRx.gapTimer]

/-- A length byte in range begins the body. -/
theorem gatewayChar_length {s : State} (hs : s.started = true) (hr : s.link.rx = .marker) {b : Byte}
    (h1 : 1 ≤ b.toNat) (h2 : b.toNat ≤ 250) :
    gatewayChar (goodChar b) s = { s with link := { s.link with rx := .body b.toNat [], gap := some 20 } } := by
  have h : ¬(b.toNat = 0 ∨ 250 < b.toNat) := by omega
  have hf : GatewayRx.feed .marker (goodChar b) = (.body b.toNat [], .nothing) := by
    rw [GatewayRx.feed, if_neg (by simp [goodChar]), if_neg (by exact h)]; rfl
  simp [gatewayChar, hs, hr, hf, GatewayRx.gapTimer]

/-- A length byte of 0 or above 250 abandons the frame past its length byte. -/
theorem gatewayChar_bad_length {s : State} (hs : s.started = true) (hr : s.link.rx = .marker) {b : Byte}
    (h : b.toNat = 0 ∨ 250 < b.toNat) : gatewayChar (goodChar b) s = frameEnds none s.hunting := by
  have hf : GatewayRx.feed .marker (goodChar b) = (.hunting, .abandoned) := by
    rw [GatewayRx.feed, if_neg (by simp [goodChar]), if_pos (by exact h)]
  simp [gatewayChar, hs, hr, hf, GatewayRx.gapTimer, State.hunting]

/-- A character inside the body is kept. -/
theorem gatewayChar_body {s : State} (hs : s.started = true) {len : Nat} {got : List Byte}
    (hr : s.link.rx = .body len got) (h : got.length + 1 < len + 2) (b : Byte) :
    gatewayChar (goodChar b) s =
      { s with link := { s.link with rx := .body len (got ++ [b]), gap := some 20 } } := by
  have hf : GatewayRx.feed (.body len got) (goodChar b) = (.body len (got ++ [b]), .nothing) := by
    rw [GatewayRx.feed, if_neg (by simp [goodChar]), if_pos (by exact h)]; rfl
  simp [gatewayChar, hs, hr, hf, GatewayRx.gapTimer]

/-- The last character of a frame ends it. -/
theorem gatewayChar_last {s : State} (hs : s.started = true) {len : Nat} {got : List Byte}
    (hr : s.link.rx = .body len got) (h : got.length + 1 = len + 2) (b : Byte) :
    gatewayChar (goodChar b) s = frameEnds (goodBody len (got ++ [b])) s.hunting := by
  have hf : GatewayRx.feed (.body len got) (goodChar b) = (.hunting, .complete len (got ++ [b])) := by
    rw [GatewayRx.feed, if_neg (by simp [goodChar]), if_neg (by omega)]; rfl
  simp [gatewayChar, hs, hr, hf, GatewayRx.gapTimer, State.hunting]

/-- A missing stop bit past the length byte abandons the frame as a faulty one. -/
theorem gatewayChar_stop_in_body {s : State} (hs : s.started = true) {len : Nat} {got : List Byte}
    (hr : s.link.rx = .body len got) (b : Byte) : gatewayChar ⟨b, false⟩ s = frameEnds none s.hunting := by
  simp [gatewayChar, hs, hr, GatewayRx.feed, GatewayRx.gapTimer, State.hunting]

/-- A missing stop bit right after the start marker discards the frame without an answer. -/
theorem gatewayChar_stop_after_marker {s : State} (hs : s.started = true) (hr : s.link.rx = .marker) (b : Byte) :
    gatewayChar ⟨b, false⟩ s = s.hunting := by
  simp [gatewayChar, hs, hr, GatewayRx.feed, GatewayRx.gapTimer, State.hunting]

/-- The body and the CRC of a frame, received in turn, end it with exactly these characters. -/
theorem gatewayChars_body {len : Nat} (bs : List Byte) :
    ∀ {s : State} {got : List Byte}, s.started = true → s.link.rx = .body len got →
      got.length + bs.length = len + 2 → bs ≠ [] →
      gatewayChars (bs.map goodChar) s = frameEnds (goodBody len (got ++ bs)) s.hunting := by
  induction bs with
  | nil => intro _ _ _ _ _ h; exact absurd rfl h
  | cons b bs ih =>
    intro s got hs hr hl _
    rw [List.map_cons, gatewayChars_cons]
    by_cases hb : bs = []
    · subst hb
      rw [gatewayChar_last hs hr (by simpa using hl)]
      rfl
    · have hpos : 0 < bs.length := List.length_pos_iff.mpr hb
      simp only [List.length_cons] at hl
      rw [gatewayChar_body hs hr (by omega)]
      rw [ih (got := got ++ [b]) (by exact hs) rfl (by simp; omega) hb]
      simp [State.hunting]

/-- A whole frame, received while the receiver looks for a start marker, ends with its body and CRC (R163). -/
theorem gatewayChars_frame {s : State} (hs : s.started = true) (hr : s.link.rx = .hunting) {len : Byte}
    {bs : List Byte} (h1 : 1 ≤ len.toNat) (h2 : len.toNat ≤ 250) (hb : bs.length = len.toNat + 2) :
    gatewayChars ((0x7E :: len :: bs).map goodChar) s = frameEnds (goodBody len.toNat bs) s.hunting := by
  rw [List.map_cons, List.map_cons, gatewayChars_cons, gatewayChars_cons, gatewayChar_marker hs hr,
    gatewayChar_length (by exact hs) rfl h1 h2,
    gatewayChars_body bs (by exact hs) rfl (by simpa using hb) (by intro h; simp [h] at hb)]
  simp [State.hunting]

theorem u8_toNat {n : Nat} (h : n < 256) : (u8 n).toNat = n := by
  simp only [u8, BitVec.toNat_ofNat]; omega

/-- The body of a frame with a right CRC passes the check (R164). -/
theorem goodBody_right (body : List Byte) :
    goodBody body.length (body ++ be16 (crc16 (u8 body.length :: body))) = some body := by
  simp [goodBody]

/-- A body with a wrong CRC fails the check (R164). -/
theorem goodBody_wrong {body crc : List Byte} (h : crc ≠ be16 (crc16 (u8 body.length :: body))) :
    goodBody body.length (body ++ crc) = none := by
  simp [goodBody, h]

/-- A gateway row on a part that receives: the frame ends good, whatever its code (R163, R164). -/
theorem gatewayRow_received {s : State} (hs : s.started = true) (hr : s.link.rx = .hunting) (code : Byte)
    {args : List Byte} (ha : args.length ≤ maxArgs) :
    gatewayRow code args s = .next (frameEnds (some (code :: args)) s.hunting) := by
  have hm : args.length ≤ 249 := ha
  have hu : (u8 (args.length + 1)).toNat = args.length + 1 := u8_toNat (by omega)
  have hf : gatewayFrame code args
      = 0x7E :: u8 (args.length + 1) ::
          ((code :: args) ++ be16 (crc16 (u8 (code :: args).length :: (code :: args)))) := by
    simp [gatewayFrame]
  have hg := goodBody_right (code :: args)
  simp only [gatewayRow, argsFit, decide_eq_true ha, if_true]
  rw [hf, gatewayChars_frame hs hr (by omega) (by omega) (by simp [be16, hu]), hu]
  simp only [List.length_cons] at hg ⊢
  rw [hg]

/-- A gateway row on an idle part that receives is handled by R166. -/
theorem gatewayRow_idle {s : State} (hs : s.started = true) (hi : s.link.state = .idle) (hr : s.link.rx = .hunting)
    (hg : s.link.gap = none) (code : Byte) {args : List Byte} (ha : args.length ≤ maxArgs) :
    gatewayRow code args s = .next (handleFrame (some (code :: args)) s) := by
  rw [gatewayRow_received hs hr code ha, State.hunting_eq_self hr hg, frameEnds, if_pos hi]

/-- A gateway row on a part with a command in flight meets the busy-reply slot (R169). -/
theorem gatewayRow_busy {s : State} (hs : s.started = true) (hi : s.link.state ≠ .idle) (hr : s.link.rx = .hunting)
    (hg : s.link.gap = none) (code : Byte) {args : List Byte} (ha : args.length ≤ maxArgs) :
    gatewayRow code args s = .next (busyFrame (some (code :: args)) s) := by
  rw [gatewayRow_received hs hr code ha, State.hunting_eq_self hr hg, frameEnds, if_neg hi]

/-- A dispatched frame is concluded with its command (R166, R168). -/
theorem handleFrame_command {code : Byte} {args : List Byte} {read : List Byte → Option Command} {cmd : Command}
    (hc : catalogue code = some read) (hr : read args = some cmd) (s : State) :
    handleFrame (some (code :: args)) s = conclude code (take cmd s) := by
  simp [handleFrame, hc, hr]

theorem handleFrame_unknown {code : Byte} (hc : catalogue code = none) (args : List Byte) (s : State) :
    handleFrame (some (code :: args)) s = s.respond .unknown code .empty := by
  simp [handleFrame, hc]

theorem handleFrame_length {code : Byte} {args : List Byte} {read : List Byte → Option Command}
    (hc : catalogue code = some read) (hr : read args = none) (s : State) :
    handleFrame (some (code :: args)) s = s.respond .length code .empty := by
  simp [handleFrame, hc, hr]

@[simp] theorem conclude_done (code : Byte) (s : State) (st : Status) (p : Payload) :
    conclude code (s, .done st p) = s.respond st code p := rfl

@[simp] theorem conclude_running (code : Byte) (s : State) (op : Operation) :
    conclude code (s, .running op) = { s with link := { s.link with state := .executing op } } := rfl

end Sys2Proof.Machine
end

