-- ==== Sys2Proof/Laws/Store.lean ====
section
/-! SUPPORT. What the operations of the rundown store and the scroll channels can do: lookups and the running order, the
cases of retirement, kill and leave (R5 to R10), and the frame of each operation, which says once which fields of the
state it can touch. -/

namespace Sys2Proof.Machine

/-! ## Lookups and the running order -/

theorem State.story?_id {s : State} {id : Nat} {st : Story} (h : s.story? id = some st) : st.id = id := by
  have := List.find?_some h
  simpa using this

theorem State.story?_mem {s : State} {id : Nat} {st : Story} (h : s.story? id = some st) : st ∈ s.stories :=
  List.mem_of_find?_eq_some h

theorem State.story?_of_mem {s : State} (hd : (s.stories.map Story.id).Nodup) {st : Story} (h : st ∈ s.stories) :
    s.story? st.id = some st := by
  unfold State.story?
  generalize s.stories = l at hd h
  induction l with
  | nil => simp at h
  | cons x xs ih =>
    simp only [List.map_cons, List.nodup_cons] at hd
    rcases List.mem_cons.mp h with rfl | h'
    · simp
    · have hne : x.id ≠ st.id := fun e => hd.1 (e ▸ List.mem_map_of_mem h')
      simp [hne, ih hd.2 h']

theorem State.isLive_iff {s : State} {id : Nat} : s.isLive id = true ↔ ∃ st, s.story? id = some st := by
  simp [State.isLive, Option.isSome_iff_exists]

theorem State.isLive_iff_mem {s : State} {id : Nat} : s.isLive id = true ↔ id ∈ s.stories.map Story.id := by
  simp [State.isLive, State.story?]

theorem length_insertAfter (a : Nat) (st : Story) (l : List Story) : (insertAfter a st l).length = l.length + 1 := by
  induction l with
  | nil => simp [insertAfter]
  | cons x xs ih =>
    simp only [insertAfter]
    split
    · rfl
    · split <;> simp [ih]

theorem insertAfter_perm (a : Nat) (st : Story) (l : List Story) : (insertAfter a st l).Perm (st :: l) := by
  induction l with
  | nil => simp [insertAfter]
  | cons x xs ih =>
    simp only [insertAfter]
    split
    · exact List.Perm.refl _
    · split
      · exact List.Perm.swap st x xs
      · exact (ih.cons x).trans (List.Perm.swap st x xs)

theorem State.modStory_ids (s : State) (id : Nat) {f : Story → Story} (hf : ∀ st, (f st).id = st.id) :
    (s.modStory id f).stories.map Story.id = s.stories.map Story.id := by
  simp only [State.modStory, List.map_map]
  refine List.map_congr_left fun st _ => ?_
  by_cases h : st.id = id <;> simp [h, hf]

/-! ## Retirement, kill, leave, entry -/

theorem retire_absent {s : State} {id : Nat} (h : s.story? id = none) : retire id s = s := by simp [retire, h]

/-- What a retirement does to the store (R9, R11, R26). -/
theorem retire_live {s : State} {id : Nat} {st : Story} (h : s.story? id = some st) :
    (retire id s).stories = removeStory id s.stories ∧ (retire id s).freeLines = s.freeLines + st.n
      ∧ (retire id s).pt = if st.counted then s.pt - st.seconds else s.pt := by
  simp only [retire, h]
  by_cases hl : s.link.state = .executing (.check id) <;> simp [hl]

/-- A retirement touches the store, the pool and, when a check ends with GONE, the link. -/
theorem retire_frame (id : Nat) (s : State) :
    retire id s = { s with
      stories := (retire id s).stories
      freeLines := (retire id s).freeLines
      pt := (retire id s).pt
      link := (retire id s).link } := by
  unfold retire
  split
  · rfl
  · split <;> rfl

/-- The link after a retirement: a check in flight on the story ends with GONE, and nothing else happens to it (R41). -/
theorem retire_link (id : Nat) (s : State) :
    (retire id s).link = s.link
      ∨ (s.link.state = .executing (.check id)
          ∧ (retire id s).link = { s.link with state := .answering ⟨.gone, 0x1B, .empty⟩ }) := by
  unfold retire
  split
  · exact .inl rfl
  · by_cases h : s.link.state = .executing (.check id)
    · right; refine ⟨h, ?_⟩; simp [h]
    · left; simp [h]

/-- The three cases of a kill (R10). -/
theorem kill_cases {s : State} {id : Nat} {st : Story} (h : s.story? id = some st) :
    (st.openEmpty = true ∧ kill id s = (retire id s, .retired))
      ∨ (st.openEmpty = false ∧ st.air = .doomed ∧ kill id s = (s, .deferred))
      ∨ (st.openEmpty = false ∧ st.air ≠ .doomed
          ∧ kill id s = ({ s.modStory id (fun x => { x with air := .doomed }) with
              pt := if st.floated then s.pt else s.pt - st.seconds }, .deferred)) := by
  simp only [kill, h]
  by_cases ho : st.openEmpty = true
  · exact .inl ⟨ho, by simp [ho]⟩
  · right
    by_cases hd : st.air = .doomed
    · exact .inl ⟨by simpa using ho, hd, by simp [ho, hd]⟩
    · exact .inr ⟨by simpa using ho, hd, by simp [ho, hd]⟩

theorem kill_frame (id : Nat) (s : State) :
    (kill id s).1 = { s with
      stories := (kill id s).1.stories
      freeLines := (kill id s).1.freeLines
      pt := (kill id s).1.pt
      link := (kill id s).1.link } := by
  unfold kill
  split
  · rfl
  · split
    · exact retire_frame id s
    · split <;> rfl

/-- The record of the story after the first part of a leave (R5 to R8): its air state, then its open set. -/
def Story.left (c : ChannelId) (kind : LeaveKind) (byLead : Bool) (st : Story) : Story :=
  Story.setOpen { st with air := airAfterLeave kind byLead st.air } c false

@[simp] theorem Story.setOpen_id (st : Story) (c : ChannelId) (v : Bool) : (st.setOpen c v).id = st.id := by
  cases c <;> rfl

@[simp] theorem Story.left_id (c : ChannelId) (kind : LeaveKind) (b : Bool) (st : Story) :
    (st.left c kind b).id = st.id := by simp [Story.left]

/-- The four cases of a leave of a live story (R5 to R8). -/
theorem leave_cases {s : State} {id : Nat} {st : Story} (h : s.story? id = some st) (c : ChannelId)
    (kind : LeaveKind) :
    let byLead := decide (s.cues.lead = c)
    let s' := s.modStory id (Story.left c kind byLead)
    let st' := st.left c kind byLead
    (st'.air = .doomed ∧ st'.openEmpty = true ∧ leave c id kind s = retire id s')
      ∨ (st'.air = .doomed ∧ st'.openEmpty = false ∧ leave c id kind s = s')
      ∨ (st'.air ≠ .doomed ∧ kind = .forward ∧ byLead = true ∧ st'.air = .aired ∧ st'.autoRetire = true
          ∧ leave c id kind s = (kill id s').1)
      ∨ (st'.air ≠ .doomed ∧ ¬(kind = .forward ∧ byLead = true ∧ st'.air = .aired ∧ st'.autoRetire = true)
          ∧ leave c id kind s = s') := by
  intro byLead s' st'
  have hl : leave c id kind s
      = if st'.air = .doomed then (if st'.openEmpty then retire id s' else s')
        else if kind = .forward ∧ byLead = true ∧ st'.air = .aired ∧ st'.autoRetire = true then (kill id s').1
        else s' := by
    simp only [leave, h]
    rfl
  by_cases hd : st'.air = .doomed
  · by_cases ho : st'.openEmpty = true
    · exact .inl ⟨hd, ho, by rw [hl, if_pos hd, if_pos ho]⟩
    · exact .inr (.inl ⟨hd, by simpa using ho, by rw [hl, if_pos hd, if_neg ho]⟩)
  · right; right
    by_cases ha : kind = .forward ∧ byLead = true ∧ st'.air = .aired ∧ st'.autoRetire = true
    · exact .inl ⟨hd, ha.1, ha.2.1, ha.2.2.1, ha.2.2.2, by rw [hl, if_neg hd, if_pos ha]⟩
    · exact .inr ⟨hd, ha, by rw [hl, if_neg hd, if_neg ha]⟩

theorem leave_absent {s : State} {id : Nat} (h : s.story? id = none) (c : ChannelId) (kind : LeaveKind) :
    leave c id kind s = s := by simp [leave, h]

theorem leave_frame (c : ChannelId) (id : Nat) (kind : LeaveKind) (s : State) :
    leave c id kind s = { s with
      stories := (leave c id kind s).stories
      freeLines := (leave c id kind s).freeLines
      pt := (leave c id kind s).pt
      link := (leave c id kind s).link } := by
  cases h : s.story? id with
  | none => rw [leave_absent h]
  | some st =>
    rcases leave_cases h c kind with ⟨_, _, e⟩ | ⟨_, _, e⟩ | ⟨_, _, _, _, _, e⟩ | ⟨_, _, e⟩ <;> rw [e]
    · exact retire_frame _ _
    · rfl
    · exact kill_frame _ _
    · rfl

@[simp] theorem leave_channelA (c : ChannelId) (id : Nat) (k : LeaveKind) (s : State) :
    (leave c id k s).channelA = s.channelA := by rw [leave_frame]

@[simp] theorem leave_channelB (c : ChannelId) (id : Nat) (k : LeaveKind) (s : State) :
    (leave c id k s).channelB = s.channelB := by rw [leave_frame]

@[simp] theorem leave_channel (c : ChannelId) (id : Nat) (k : LeaveKind) (s : State) (d : ChannelId) :
    (leave c id k s).channel d = s.channel d := by cases d <;> simp [State.channel]

@[simp] theorem leave_cues (c : ChannelId) (id : Nat) (k : LeaveKind) (s : State) :
    (leave c id k s).cues = s.cues := by rw [leave_frame]

@[simp] theorem leave_heights (c : ChannelId) (id : Nat) (k : LeaveKind) (s : State) :
    (leave c id k s).heights = s.heights := by rw [leave_frame]

@[simp] theorem leave_stations (c : ChannelId) (id : Nat) (k : LeaveKind) (s : State) :
    (leave c id k s).stations = s.stations := by rw [leave_frame]

@[simp] theorem leave_arbiter (c : ChannelId) (id : Nat) (k : LeaveKind) (s : State) (d : ChannelId) :
    (leave c id k s).arbiter d = s.arbiter d := by rw [leave_frame]; cases d <;> rfl

/-! ## Recomputing T -/

@[simp] theorem recompute_same (c : ChannelId) (s : State) :
    (recompute c s).channel c = { s.channel c with target := targetFor s c } := by simp [recompute]

theorem recompute_other {c d : ChannelId} (h : d ≠ c) (s : State) : (recompute c s).channel d = s.channel d := by
  simp [recompute, State.modChannel_other s h]

/-- A recompute writes T of its channel and nothing else (R52). -/
theorem recompute_eq (c : ChannelId) (s : State) :
    recompute c s = s.setChannel c { s.channel c with target := targetFor s c } := rfl

/-- T depends on the channel, its owner and the owner's held deflection alone (R52, R69). -/
theorem targetFor_congr {s t : State} {c : ChannelId} (h1 : t.channel c = s.channel c) (h2 : t.arbiter c = s.arbiter c)
    (h3 : t.stations = s.stations) : targetFor t c = targetFor s c := by
  simp only [targetFor, h1, h2, State.station, h3]
  rfl

/-! ## Frames of the movements of a read point -/

/-- The state `t` differs from `s` at most in what a movement of a channel's read point can touch: the store, the pool,
the channels, the cue unit, and the link when a check ends with GONE. -/
def MovesOnly (s t : State) : Prop :=
  t = { s with
    stories := t.stories
    freeLines := t.freeLines
    pt := t.pt
    link := t.link
    channelA := t.channelA
    channelB := t.channelB
    cues := t.cues }

theorem MovesOnly.refl (s : State) : MovesOnly s s := rfl

theorem MovesOnly.trans {s t u : State} (h1 : MovesOnly s t) (h2 : MovesOnly t u) : MovesOnly s u := by
  unfold MovesOnly at *
  rw [h2, h1]

theorem movesOnly_setChannel (c : ChannelId) (ch : Channel) (s : State) : MovesOnly s (s.setChannel c ch) := by
  cases c <;> rfl

theorem movesOnly_modChannel (c : ChannelId) (f : Channel → Channel) (s : State) : MovesOnly s (s.modChannel c f) :=
  movesOnly_setChannel c _ s

theorem movesOnly_place (c : ChannelId) (rp : ReadPoint) (s : State) : MovesOnly s (s.place c rp) :=
  movesOnly_modChannel c _ s

theorem movesOnly_recompute (c : ChannelId) (s : State) : MovesOnly s (recompute c s) := movesOnly_modChannel c _ s

theorem movesOnly_modStory (id : Nat) (f : Story → Story) (s : State) : MovesOnly s (s.modStory id f) := rfl

theorem movesOnly_leave (c : ChannelId) (id : Nat) (k : LeaveKind) (s : State) : MovesOnly s (leave c id k s) := by
  have h := leave_frame c id k s
  unfold MovesOnly
  simpa using h

theorem movesOnly_enter (c : ChannelId) (id : Nat) (s : State) : MovesOnly s (enter c id s) :=
  (movesOnly_modStory id _ s).trans (movesOnly_modChannel c _ _)

theorem movesOnly_cross (c : ChannelId) (old : Nat) (k : LeaveKind) (rp : ReadPoint) (s : State) :
    MovesOnly s (cross c old k rp s) :=
  ((movesOnly_place c rp s).trans (movesOnly_leave c old k _)).trans (movesOnly_enter c rp.story _)

theorem movesOnly_movedForward (c : ChannelId) (s : State) : MovesOnly s (movedForward c s) := by
  unfold movedForward
  split
  · exact (movesOnly_modChannel c _ s).trans (movesOnly_recompute c _)
  · exact MovesOnly.refl s

theorem movesOnly_movedBackward (c : ChannelId) (s : State) : MovesOnly s (movedBackward c s) := by
  unfold movedBackward
  split
  · exact (movesOnly_modChannel c _ s).trans (movesOnly_recompute c _)
  · exact MovesOnly.refl s

theorem movesOnly_clampEnd (c : ChannelId) (st : Story) (b : Bool) (s : State) : MovesOnly s (clampEnd c st b s) :=
  (movesOnly_modChannel c _ s).trans (movesOnly_recompute c _)

theorem movesOnly_clampStart (c : ChannelId) (st : Story) (b : Bool) (s : State) : MovesOnly s (clampStart c st b s) :=
  (movesOnly_modChannel c _ s).trans (movesOnly_recompute c _)

theorem movesOnly_reportLine (c : ChannelId) (id k : Nat) (s : State) : MovesOnly s (reportLine c id k s) := by
  unfold reportLine
  split
  · split
    · exact MovesOnly.refl s
    · split
      · exact MovesOnly.refl s
      · split
        · exact MovesOnly.refl s
        · rfl
  · exact MovesOnly.refl s

theorem movesOnly_reportLines (c : ChannelId) (id : Nat) (ks : List Nat) (s : State) :
    MovesOnly s (reportLines c id ks s) := by
  unfold reportLines
  induction ks generalizing s with
  | nil => exact MovesOnly.refl s
  | cons k ks ih => exact (movesOnly_reportLine c id k s).trans (ih _)

theorem movesOnly_stepForward (c : ChannelId) (u : Nat) (s : State) : MovesOnly s (stepForward c u s) := by
  unfold stepForward
  split
  · exact MovesOnly.refl s
  · split
    · exact MovesOnly.refl s
    · dsimp only
      split
      · exact (movesOnly_place c _ s).trans (movesOnly_movedForward c _)
      · split
        · exact ((movesOnly_place c _ s).trans (movesOnly_movedForward c _)).trans (movesOnly_reportLine c _ _ _)
        · split
          · exact movesOnly_clampEnd c _ _ s
          · exact (movesOnly_cross c _ _ _ s).trans (movesOnly_movedForward c _)

theorem movesOnly_stepBackward (c : ChannelId) (u : Nat) (s : State) : MovesOnly s (stepBackward c u s) := by
  unfold stepBackward
  split
  · exact MovesOnly.refl s
  · split
    · exact MovesOnly.refl s
    · dsimp only
      split
      · exact (movesOnly_place c _ s).trans (movesOnly_movedBackward c _)
      · split
        · exact (movesOnly_place c _ s).trans (movesOnly_movedBackward c _)
        · split
          · exact movesOnly_clampStart c _ _ s
          · split
            · exact MovesOnly.refl s
            · exact (movesOnly_cross c _ _ _ s).trans (movesOnly_movedBackward c _)

/-- Ramp and motion of a step expiry touch what a movement touches (R51). -/
theorem movesOnly_rampAndMove (c : ChannelId) (s : State) : MovesOnly s (rampAndMove c s) := by
  unfold rampAndMove
  dsimp only
  split
  · exact (movesOnly_modChannel c _ s).trans (movesOnly_stepForward c _ _)
  · split
    · exact (movesOnly_modChannel c _ s).trans (movesOnly_stepBackward c _ _)
    · exact movesOnly_modChannel c _ s

theorem movesOnly_walkForward (c : ChannelId) (frac : Nat) (ahead : List Nat) :
    ∀ (lo target : Nat) (s : State), MovesOnly s (walkForward c frac ahead lo target s) := by
  induction ahead with
  | nil =>
    intro lo target s
    unfold walkForward
    split
    · exact MovesOnly.refl s
    · split
      · exact ((movesOnly_reportLines c _ _ s).trans (movesOnly_place c _ _)).trans (movesOnly_movedForward c _)
      · exact (movesOnly_reportLines c _ _ s).trans (movesOnly_clampEnd c _ _ _)
  | cons next rest ih =>
    intro lo target s
    unfold walkForward
    split
    · exact MovesOnly.refl s
    · split
      · exact ((movesOnly_reportLines c _ _ s).trans (movesOnly_place c _ _)).trans (movesOnly_movedForward c _)
      · exact ((movesOnly_reportLines c _ _ s).trans (movesOnly_cross c _ _ _ _)).trans (ih _ _ _)

theorem movesOnly_walkBackward (c : ChannelId) (frac : Nat) (behind : List Nat) :
    ∀ (row d : Nat) (s : State), MovesOnly s (walkBackward c frac behind row d s) := by
  induction behind with
  | nil =>
    intro row d s
    unfold walkBackward
    split
    · exact MovesOnly.refl s
    · split
      · exact (movesOnly_place c _ s).trans (movesOnly_movedBackward c _)
      · exact movesOnly_clampStart c _ _ s
  | cons before rest ih =>
    intro row d s
    unfold walkBackward
    split
    · exact MovesOnly.refl s
    · split
      · exact (movesOnly_place c _ s).trans (movesOnly_movedBackward c _)
      · dsimp only
        split
        · exact MovesOnly.refl s
        · exact (movesOnly_cross c _ _ _ s).trans (ih _ _ _)

/-- A jog touches what a movement touches (R64). -/
theorem movesOnly_jog (c : ChannelId) (j : Int) (s : State) : MovesOnly s (jog c j s) := by
  unfold jog
  dsimp only
  split
  · split
    · split
      · exact MovesOnly.refl s
      · exact movesOnly_walkForward c _ _ _ _ s
    · split
      · split
        · exact MovesOnly.refl s
        · exact movesOnly_walkBackward c _ _ _ _ s
      · exact MovesOnly.refl s
  · exact MovesOnly.refl s

theorem movesOnly_nextPress (c : ChannelId) (s : State) : MovesOnly s (nextPress c s) := by
  unfold nextPress
  split
  · exact MovesOnly.refl s
  · split
    · exact MovesOnly.refl s
    · exact (movesOnly_cross c _ _ _ s).trans (movesOnly_modChannel c _ _)

theorem movesOnly_prevPress (c : ChannelId) (s : State) : MovesOnly s (prevPress c s) := by
  unfold prevPress
  split
  · exact MovesOnly.refl s
  · split
    · exact movesOnly_modChannel c _ s
    · split
      · exact MovesOnly.refl s
      · exact (movesOnly_cross c _ _ _ s).trans (movesOnly_modChannel c _ _)

theorem movesOnly_pausePress (c : ChannelId) (s : State) : MovesOnly s (pausePress c s) :=
  (movesOnly_modChannel c _ s).trans (movesOnly_recompute c _)

theorem movesOnly_unload (c : ChannelId) (s : State) : MovesOnly s (unload c s) := by
  unfold unload
  dsimp only
  split
  · exact MovesOnly.refl s
  · split
    · exact (movesOnly_leave c _ _ s).trans (movesOnly_modChannel c _ _)
    · exact movesOnly_modChannel c _ s

end Sys2Proof.Machine
end

