-- ==== Sys2Proof/Laws/Notices.lean ====
section
/-! SUPPORT. The machine's leaves, entries and crossings are those that Sys2Proof/Safety.lean writes once more from the
rules (R5 to R11, R53). -/

namespace Sys2Proof.Machine

/-! ## Leaves, entries and crossings (R5 to R11, R53) -/

theorem airAfterLeave_eq (kind : LeaveKind) (lead : Bool) (air : AirState) :
    airAfterLeave kind lead air = airLeft lead kind air := by
  cases kind <;> cases lead <;> cases air <;> rfl

/-- Looking a story up after its own record has been changed. -/
theorem State.story?_modStory {s : State} {id : Nat} {st : Story} (h : s.story? id = some st) {f : Story → Story}
    (hf : ∀ x, (f x).id = x.id) : (s.modStory id f).story? id = some (f st) := by
  unfold State.story? State.modStory at *
  simp only
  generalize s.stories = l at h
  induction l with
  | nil => simp at h
  | cons x xs ih =>
    by_cases hx : x.id = id
    · obtain rfl : x = st := by simpa [hx] using h
      simp [hx, hf]
    · rw [List.find?_cons_of_neg (by simpa using hx)] at h
      rw [List.map_cons, if_neg hx, List.find?_cons_of_neg (by simpa using hx)]
      exact ih h

/-- The stories other than the one named, after that one's record has been changed. -/
theorem removeStory_modStory (s : State) (id : Nat) {f : Story → Story} (hf : ∀ x, (f x).id = x.id) :
    removeStory id (s.modStory id f).stories = removeStory id s.stories := by
  unfold removeStory State.modStory
  simp only
  induction s.stories with
  | nil => rfl
  | cons x xs ih =>
    by_cases hx : x.id = id
    · simp [hx, hf]; simpa using ih
    · simp [hx]; simpa using ih

/-- Two changes to one story's record are one. -/
theorem modStory_modStory (s : State) {id : Nat} {f g : Story → Story} (hf : ∀ x, (f x).id = x.id) :
    (s.modStory id f).modStory id g = s.modStory id (fun x => g (f x)) := by
  simp only [State.modStory, List.map_map]
  congr 1
  refine List.map_congr_left fun x _ => ?_
  by_cases hx : x.id = id <;> simp [hx, hf]

theorem Story.left_air (c : ChannelId) (kind : LeaveKind) (lead : Bool) (st : Story) :
    (st.left c kind lead).air = airLeft lead kind st.air := by
  rw [← airAfterLeave_eq]; cases c <;> rfl

theorem Story.left_eq (c : ChannelId) (kind : LeaveKind) (lead : Bool) (st : Story) :
    st.left c kind lead = { st.setOpen c false with air := airLeft lead kind st.air } := by
  rw [← airAfterLeave_eq]; cases c <;> rfl

/-- The link after the retirement of a live story (R41). -/
theorem retire_link_live {s : State} {id : Nat} {st : Story} (h : s.story? id = some st) :
    (retire id s).link = if s.link.state = .executing (.check id) then
        { s.link with state := .answering ⟨.gone, 0x1B, .empty⟩ } else s.link := by
  simp only [retire, h]
  by_cases hl : s.link.state = .executing (.check id) <;> simp [hl]

/-- The restated leave touches the store, the pool and the link. -/
theorem State.leftBy_frame (s : State) (c : ChannelId) (kind : LeaveKind) (id : Nat) :
    s.leftBy c kind id = { s with
      stories := (s.leftBy c kind id).stories
      freeLines := (s.leftBy c kind id).freeLines
      pt := (s.leftBy c kind id).pt
      link := (s.leftBy c kind id).link } := by
  unfold State.leftBy
  split
  · rfl
  · dsimp only
    split <;> rfl

/-- Two states that differ from a third in the store alone are equal when their stores are. -/
theorem eq_of_sameStore {s t l : State}
    (ht : t = { s with stories := t.stories, freeLines := t.freeLines, pt := t.pt, link := t.link })
    (hl : l = { s with stories := l.stories, freeLines := l.freeLines, pt := l.pt, link := l.link })
    (h : SameStore t l) : t = l := by
  rw [ht, hl, h.1, h.2.1, h.2.2.1, h.2.2.2]

/-- A leave does to the store what R5 to R11 say. -/
theorem leave_eq_leftBy (c : ChannelId) (id : Nat) (kind : LeaveKind) (s : State) :
    leave c id kind s = s.leftBy c kind id := by
  refine eq_of_sameStore (leave_frame c id kind s) (State.leftBy_frame s c kind id) ?_
  cases h : s.story? id with
  | none => simp [leave, State.leftBy, h, SameStore]
  | some st =>
    have hf : ∀ x : Story, (x.left c kind (decide (s.cues.lead = c))).id = x.id := fun x => by simp
    have hs := State.story?_modStory h hf
    have hr := removeStory_modStory s id hf
    have ha := Story.left_air c kind (decide (s.cues.lead = c)) st
    have ho : (st.left c kind (decide (s.cues.lead = c))).openEmpty = (st.setOpen c false).openEmpty := by
      cases c <;> rfl
    have hn : (st.left c kind (decide (s.cues.lead = c))).n = st.lines.length := by cases c <;> rfl
    have hfl : (st.left c kind (decide (s.cues.lead = c))).floated = st.floated := by cases c <;> rfl
    have hsec : (st.left c kind (decide (s.cues.lead = c))).seconds = st.p.getD 0 := by cases c <;> rfl
    have hau : (st.left c kind (decide (s.cues.lead = c))).autoRetire = st.autoRetire := by cases c <;> rfl
    have hret := retire_live hs
    have hlink := retire_link_live hs
    rw [hr, hn] at hret
    rcases leave_cases h c kind with ⟨hd, he, e⟩ | ⟨hd, he, e⟩ | ⟨hd, hk, hl, hai, har, e⟩ | ⟨hd, hno, e⟩ <;> rw [e]
    · rw [ha] at hd
      rw [ho] at he
      simp [State.leftBy, h, hd, he, hret, hlink, Story.counted, ha, removeStory, SameStore]
      rfl
    · rw [ha] at hd
      rw [ho] at he
      simp [State.leftBy, h, hd, he, State.modStory, Story.left_eq, SameStore]
    · rw [ha] at hd hai
      rw [hau] at har
      subst hk
      simp only [decide_eq_true_eq] at hl
      subst hl
      simp only [decide_true] at *
      rcases kill_cases hs with ⟨hoe, ek⟩ | ⟨hoe, hdd, ek⟩ | ⟨hoe, hdd, ek⟩
      · rw [ek]
        rw [ho] at hoe
        simp [State.leftBy, h, hai, har, hoe, hret, hlink, Story.counted, ha, removeStory, SameStore, hfl, hsec]
        rfl
      · rw [ha] at hdd; exact absurd hdd hd
      · rw [ek]
        rw [ho] at hoe
        rw [modStory_modStory s hf]
        simp only [State.leftBy, h, har, hoe, hfl, hsec]
        refine ⟨List.map_congr_left fun x _ => ?_, rfl, ?_, rfl⟩
        · by_cases hx : x.id = id <;> simp [hx, hai, Story.left_eq]
        · cases hff : st.floated <;> simp [hai]
    · rw [ha] at hd hno
      rw [hau] at hno
      have hk : (decide (s.cues.lead = c) && decide (kind = .forward) &&
          decide (airLeft (decide (s.cues.lead = c)) kind st.air = .aired) && st.autoRetire) = false := by
        rw [Bool.eq_false_iff]
        simp only [ne_eq, Bool.and_eq_true, decide_eq_true_eq] at hno ⊢
        exact fun hh => hno ⟨hh.1.1.2, hh.1.1.1, hh.1.2, hh.2⟩
      simp only [State.leftBy, h, hk]
      simp [hd, State.modStory, Story.left_eq, SameStore]
/-- An entry adds the channel to the story's open set (R5) and sets the channel's STORY CHANGED. -/
theorem enter_eq_enteredBy (c : ChannelId) (id : Nat) (s : State) :
    enter c id s = (s.enteredBy c id).modChannel c (fun ch => { ch with storyChanged := true }) := by
  unfold enter State.enteredBy State.modStory
  rfl

/-- A crossing places the read point, then the old story is left, then the new one entered (R53). -/
theorem cross_eq (c : ChannelId) (old : Nat) (kind : LeaveKind) (rp : ReadPoint) (s : State) :
    cross c old kind rp s = (((s.place c rp).leftBy c kind old).enteredBy c rp.story).modChannel c
      (fun ch => { ch with storyChanged := true }) := by
  rw [cross, leave_eq_leftBy, enter_eq_enteredBy]

end Sys2Proof.Machine
end

