-- ==== Sys2Proof/Laws/Ports.lean ====
section
/-! SUPPORT. What the receiver of a station or head port does with a whole frame (R123, R124, R156), and the check byte of
a frame as a sender forms it. -/

namespace Sys2Proof.Machine

/-! ## Repeated updates of one port -/

@[simp] theorem State.modStation_modStation (s : State) (p : Fin 4) (f g : Station → Station) :
    (s.modStation p f).modStation p g = s.modStation p (fun st => g (f st)) := by
  simp [State.modStation]

theorem State.modStation_eq_self {s : State} {p : Fin 4} {f : Station → Station} (h : f (s.station p) = s.station p) :
    s.modStation p f = s := by
  have hv : s.stations.set p (f s.stations[p]) = s.stations := by
    rw [show f s.stations[p] = s.stations[p] from h]; simp
  unfold State.modStation
  rw [hv]

@[simp] theorem State.modHead_modHead (s : State) (p : Fin 4) (f g : Head → Head) :
    (s.modHead p f).modHead p g = s.modHead p (fun hd => g (f hd)) := by
  simp [State.modHead]

theorem State.modHead_eq_self {s : State} {p : Fin 4} {f : Head → Head} (h : f (s.head p) = s.head p) :
    s.modHead p f = s := by
  have hv : s.heads.set p (f s.heads[p]) = s.heads := by
    rw [show f s.heads[p] = s.heads[p] from h]; simp
  unfold State.modHead
  rw [hv]

/-! ## The characters of a frame -/

/-- The receiver's answer to a start marker. -/
theorem PortRx.feed_marker : PortRx.feed .hunting (goodChar 0xA5) = (.marker, .nothing) := rfl

/-- The receiver's answer to a length byte in range. -/
theorem PortRx.feed_length {b : Byte} (h1 : 1 ≤ b.toNat) (h2 : b.toNat ≤ 16) :
    PortRx.feed .marker (goodChar b) = (.body b.toNat [], .nothing) := by
  have h : ¬(b.toNat = 0 ∨ 16 < b.toNat) := by omega
  rw [PortRx.feed, if_neg (by simp [goodChar])]
  exact if_neg h

/-- A length byte of 0 or above 16 is a framing fault. -/
theorem PortRx.feed_bad_length {b : Byte} (h : b.toNat = 0 ∨ 16 < b.toNat) :
    PortRx.feed .marker (goodChar b) = (.hunting, .fault) := by
  rw [PortRx.feed, if_neg (by simp [goodChar])]
  exact if_pos h

/-- A missing stop bit is a framing fault in every state of the receiver. -/
theorem PortRx.feed_stop (rx : PortRx) (b : Byte) : PortRx.feed rx ⟨b, false⟩ = (.hunting, .fault) := rfl

/-- A character inside the body is kept. -/
theorem PortRx.feed_body {len : Nat} {got : List Byte} (h : got.length < len) (b : Byte) :
    PortRx.feed (.body len got) (goodChar b) = (.body len (got ++ [b]), .nothing) := by
  rw [PortRx.feed, if_neg (by simp [goodChar])]
  exact if_pos h

/-- The character after the body completes the frame. -/
theorem PortRx.feed_check {len : Nat} {got : List Byte} (h : got.length = len) (b : Byte) :
    PortRx.feed (.body len got) (goodChar b) = (.hunting, .complete len got b) := by
  rw [PortRx.feed, if_neg (by simp [goodChar])]
  exact if_neg (by omega)

/-! ## A whole frame at a station port -/

/-- A station port receives some characters in turn. -/
def stationChars (p : Fin 4) (cs : List Byte) (s : State) : State :=
  cs.foldl (fun s b => stationChar p (goodChar b) s) s

theorem stationChars_cons (p : Fin 4) (b : Byte) (cs : List Byte) (s : State) :
    stationChars p (b :: cs) s = stationChars p cs (stationChar p (goodChar b) s) := rfl

/-- Before start-up completes every character at a station port is discarded (R123). -/
theorem stationChar_before_start {s : State} (h : s.started = false) (p : Fin 4) (c : LineChar) :
    stationChar p c s = s := by simp [stationChar, h]

theorem stationChars_before_start {s : State} (h : s.started = false) (p : Fin 4) (cs : List Byte) :
    stationChars p cs s = s := by
  induction cs with
  | nil => rfl
  | cons c cs ih => rw [stationChars_cons, stationChar_before_start h, ih]

/-- One character at a station port, from what it makes of the receiver. -/
theorem stationChar_eq {s : State} (hs : s.started = true) (p : Fin 4) (c : LineChar) {rx : PortRx} {e : PortEvent}
    (hf : (s.station p).rx.feed c = (rx, e)) :
    stationChar p c s = match e with
      | .nothing => s.modStation p (fun st => { st with rx := rx, gap := rx.gapTimer })
      | .fault => framingFault p (s.modStation p (fun st => { st with rx := rx, gap := rx.gapTimer }))
      | .complete len body check =>
        completeReport p len body check (s.modStation p (fun st => { st with rx := rx, gap := rx.gapTimer })) := by
  simp only [stationChar, hs, hf]
  cases e <;> simp

/-- The body and check byte of a station frame, received in turn, complete it. -/
theorem stationChars_body (p : Fin 4) {len : Nat} (check : Byte) (body : List Byte) :
    ∀ {s : State} {got : List Byte}, s.started = true → (s.station p).rx = .body len got →
      got.length + body.length = len →
      stationChars p (body ++ [check]) s =
        completeReport p len (got ++ body) check
          (s.modStation p (fun st => { st with rx := .hunting, gap := none })) := by
  induction body with
  | nil =>
    intro s got hs hr hl
    have hf : (s.station p).rx.feed (goodChar check) = (.hunting, .complete len got check) := by
      rw [hr]; exact PortRx.feed_check (by simpa using hl) check
    simp only [List.nil_append, stationChars_cons, stationChar_eq hs p _ hf, List.append_nil]
    rfl
  | cons b body ih =>
    intro s got hs hr hl
    simp only [List.length_cons] at hl
    have hf : (s.station p).rx.feed (goodChar b) = (.body len (got ++ [b]), .nothing) := by
      rw [hr]; exact PortRx.feed_body (by omega) b
    rw [List.cons_append, stationChars_cons, stationChar_eq hs p _ hf]
    simp only
    rw [ih (got := got ++ [b]) (by simpa using hs) (by simp) (by simp; omega)]
    simp

/-- A whole frame at a station port whose receiver looks for a start marker is handled by R126, whatever its check
byte. -/
theorem stationChars_frame {s : State} (hs : s.started = true) {p : Fin 4} (hr : (s.station p).rx = .hunting)
    (hg : (s.station p).gap = none) {body : List Byte} (h1 : 1 ≤ body.length) (h2 : body.length ≤ 16) (check : Byte) :
    stationChars p (0xA5 :: u8 body.length :: (body ++ [check])) s = completeReport p body.length body check s := by
  have hu : (u8 body.length).toNat = body.length := u8_toNat (by omega)
  have hf1 : (s.station p).rx.feed (goodChar 0xA5) = (.marker, .nothing) := by rw [hr]; exact PortRx.feed_marker
  rw [stationChars_cons, stationChar_eq hs p _ hf1]
  simp only
  have hf2 : ((s.modStation p fun st => { st with rx := .marker, gap := PortRx.gapTimer .marker }).station p).rx.feed
      (goodChar (u8 body.length)) = (.body body.length [], .nothing) := by
    have := PortRx.feed_length (b := u8 body.length) (by omega) (by omega)
    simpa [hu] using this
  rw [stationChars_cons, stationChar_eq (by simpa using hs) p _ hf2]
  simp only
  rw [stationChars_body (len := body.length) p check body (got := []) (by simpa using hs) (by simp) (by simp)]
  simp only [List.nil_append, State.modStation_modStation]
  rw [State.modStation_eq_self]
  show { s.station p with rx := PortRx.hunting, gap := none } = s.station p
  rw [← hr, ← hg]

/-! ## A whole frame at a head port -/

/-- A head port receives some characters in turn. -/
def headChars (p : Fin 4) (cs : List Byte) (s : State) : State :=
  cs.foldl (fun s b => headChar p (goodChar b) s) s

theorem headChars_cons (p : Fin 4) (b : Byte) (cs : List Byte) (s : State) :
    headChars p (b :: cs) s = headChars p cs (headChar p (goodChar b) s) := rfl

/-- Before start-up completes every character at a head port is discarded (R162). -/
theorem headChar_before_start {s : State} (h : s.started = false) (p : Fin 4) (c : LineChar) : headChar p c s = s := by
  simp [headChar, h]

theorem headChars_before_start {s : State} (h : s.started = false) (p : Fin 4) (cs : List Byte) :
    headChars p cs s = s := by
  induction cs with
  | nil => rfl
  | cons c cs ih => rw [headChars_cons, headChar_before_start h, ih]

/-- One character at a head port, from what it makes of the receiver. -/
theorem headChar_eq {s : State} (hs : s.started = true) (p : Fin 4) (c : LineChar) {rx : PortRx} {e : PortEvent}
    (hf : (s.head p).rx.feed c = (rx, e)) :
    headChar p c s = match e with
      | .nothing => s.modHead p (fun hd => { hd with rx := rx, gap := rx.gapTimer })
      | .fault => s.modHead p (fun hd => { hd with rx := rx, gap := rx.gapTimer })
      | .complete len body check =>
        completeFetch p len body check (s.modHead p (fun hd => { hd with rx := rx, gap := rx.gapTimer })) := by
  simp only [headChar, hs, hf]
  cases e <;> simp

/-- The body and check byte of a FETCH frame, received in turn, complete it. -/
theorem headChars_body (p : Fin 4) {len : Nat} (check : Byte) (body : List Byte) :
    ∀ {s : State} {got : List Byte}, s.started = true → (s.head p).rx = .body len got →
      got.length + body.length = len →
      headChars p (body ++ [check]) s =
        completeFetch p len (got ++ body) check (s.modHead p (fun hd => { hd with rx := .hunting, gap := none })) := by
  induction body with
  | nil =>
    intro s got hs hr hl
    have hf : (s.head p).rx.feed (goodChar check) = (.hunting, .complete len got check) := by
      rw [hr]; exact PortRx.feed_check (by simpa using hl) check
    simp only [List.nil_append, headChars_cons, headChar_eq hs p _ hf, List.append_nil]
    rfl
  | cons b body ih =>
    intro s got hs hr hl
    simp only [List.length_cons] at hl
    have hf : (s.head p).rx.feed (goodChar b) = (.body len (got ++ [b]), .nothing) := by
      rw [hr]; exact PortRx.feed_body (by omega) b
    rw [List.cons_append, headChars_cons, headChar_eq hs p _ hf]
    simp only
    rw [ih (got := got ++ [b]) (by simpa using hs) (by simp) (by simp; omega)]
    simp

/-- A whole frame at a head port whose receiver looks for a start marker is handled by R156, whatever its check
byte. -/
theorem headChars_frame {s : State} (hs : s.started = true) {p : Fin 4} (hr : (s.head p).rx = .hunting)
    (hg : (s.head p).gap = none) {body : List Byte} (h1 : 1 ≤ body.length) (h2 : body.length ≤ 16) (check : Byte) :
    headChars p (0xA5 :: u8 body.length :: (body ++ [check])) s = completeFetch p body.length body check s := by
  have hu : (u8 body.length).toNat = body.length := u8_toNat (by omega)
  have hf1 : (s.head p).rx.feed (goodChar 0xA5) = (.marker, .nothing) := by rw [hr]; exact PortRx.feed_marker
  rw [headChars_cons, headChar_eq hs p _ hf1]
  simp only
  have hf2 : ((s.modHead p fun hd => { hd with rx := .marker, gap := PortRx.gapTimer .marker }).head p).rx.feed
      (goodChar (u8 body.length)) = (.body body.length [], .nothing) := by
    have := PortRx.feed_length (b := u8 body.length) (by omega) (by omega)
    simpa [hu] using this
  rw [headChars_cons, headChar_eq (by simpa using hs) p _ hf2]
  simp only
  rw [headChars_body (len := body.length) p check body (got := []) (by simpa using hs) (by simp) (by simp)]
  simp only [List.nil_append, State.modHead_modHead]
  rw [State.modHead_eq_self]
  show { s.head p with rx := PortRx.hunting, gap := none } = s.head p
  rw [← hr, ← hg]

/-! ## The check byte (R124) -/

/-- The end-around sum of a byte and what it lacks to 0xFF is 0xFF. -/
theorem endAroundAdd_complement (a : Byte) : endAroundAdd a (0xFF#8 - a) = 0xFF#8 := by
  have h : a.toNat < 256 := a.isLt
  have hs : (0xFF#8 - a).toNat = 255 - a.toNat := by
    rw [BitVec.toNat_sub_of_le]
    · rfl
    · simp only [BitVec.le_def]; simp; omega
  simp only [endAroundAdd, hs]
  rw [if_pos (by omega), show a.toNat + (255 - a.toNat) = 255 by omega]
  rfl

/-- A frame with the check byte that its sender forms passes the check. -/
theorem checkPasses_checkByte (bs : List Byte) : checkPasses bs (checkByte bs) = true := by
  simp [checkPasses, checkByte, endAroundSum, endAroundAdd_complement]

/-! ## The head transmitter (R154, R155, R157, R161) -/

/-- A port whose requests wait behind a full answer queue takes none. -/
theorem Head.takeAll_eq_self {s : State} {h : Head} (hr : h.requests ≠ [] → h.answers.length = 2) : h.takeAll s = h := by
  obtain ⟨_, requests, answers, _⟩ := h
  cases requests with
  | nil => rfl
  | cons r rs =>
    have hl : answers.length = 2 := hr (List.cons_ne_nil _ _)
    simp [Head.takeAll, takeRequests, hl]

/-- A busy transmitter starts nothing. -/
theorem Head.start_busy {h : Head} (hs : h.sending ≠ none) : h.start = h := if_pos hs

/-- What joins a busy port only waits. -/
theorem Head.pump_busy {s : State} {h : Head} (hs : h.sending ≠ none) (hr : h.requests ≠ [] → h.answers.length = 2) :
    h.pump s = h := by
  rw [Head.pump, Head.takeAll_eq_self hr, Head.start_busy hs, Head.takeAll_eq_self hr]

/-- A position frame offered to a busy port waits, in place of an older one. -/
theorem offerPosition_busy {s : State} {f : PosFrame} {h : Head} (hs : h.sending ≠ none)
    (hr : h.requests ≠ [] → h.answers.length = 2) : offerPosition s f h = { h with waitingPos := some f } :=
  Head.pump_busy hs hr

/-- A GEOMETRY frame queued at a busy port waits, and the waiting position frame is discarded. -/
theorem queueGeometry_busy {s : State} {g : Heights} {h : Head} (hs : h.sending ≠ none)
    (hr : h.requests ≠ [] → h.answers.length = 2) :
    queueGeometry s g h = { h with pendingGeom := some g, waitingPos := none } :=
  Head.pump_busy hs hr

/-- A GEOMETRY frame queued at an idle port is started. -/
theorem queueGeometry_idle {s : State} {g : Heights} {h : Head} (hs : h.sending = none) (ha : h.answers = [])
    (hr : h.requests = []) :
    queueGeometry s g h
      = { h with waitingPos := none, pendingGeom := none, sending := some (.geometry g), lastKind := .position } := by
  obtain ⟨_, _, _, _, _, _, _, _, _, _⟩ := h
  subst hs ha hr
  rfl

end Sys2Proof.Machine
end

