-- ==== Sys2Proof/Laws/Rows.lean ====
section
/-! SUPPORT. What the rows of the table come to: a gateway row on a ready part is its command taken and concluded, and the
fields of a frame read back as they were sent (R167, R176). -/

namespace Sys2Proof.Machine

/-! ## Rows -/

/-- A row that brings one good frame is that frame received. -/
theorem exec_frame {i : Instr} {code : Byte} {args : List Byte} (h : frameOf i = some (code, args)) (s : State) :
    exec i s = gatewayRow code args s := by
  cases i <;> simp only [frameOf, Option.some.injEq, Prod.mk.injEq, reduceCtorEq] at h <;>
    (obtain ⟨rfl, rfl⟩ := h; rfl)

/-- A row that brings one good frame, on a ready part, is the frame handled by R166. -/
theorem exec_frame_ready {i : Instr} {code : Byte} {args : List Byte} (h : frameOf i = some (code, args))
    (ha : args.length ≤ maxArgs) {s : State} (hs : Ready s) : exec i s = .next (handleFrame (some (code :: args)) s) := by
  rw [exec_frame h, gatewayRow_idle hs.1 hs.2.1 hs.2.2.1 hs.2.2.2 code ha]

/-- A row whose arguments read as a command of the catalogue, on a ready part, is that command taken and concluded. -/
theorem exec_command {i : Instr} {code : Byte} {args : List Byte} {read : List Byte → Option Command} {cmd : Command}
    (h : frameOf i = some (code, args)) (ha : args.length ≤ maxArgs) (hc : catalogue code = some read)
    (hr : read args = some cmd) {s : State} (hs : Ready s) : exec i s = .next (conclude code (take cmd s)) := by
  rw [exec_frame_ready h ha hs, handleFrame_command hc hr]

/-- A row that brings one good frame, while a command is in flight, meets the busy-reply slot. -/
theorem exec_frame_busy {i : Instr} {code : Byte} {args : List Byte} (h : frameOf i = some (code, args))
    (ha : args.length ≤ maxArgs) {s : State} (hs : InFlight s) :
    exec i s = .next (busyFrame (some (code :: args)) s) := by
  rw [exec_frame h, gatewayRow_busy hs.1 hs.2.1 hs.2.2.1 hs.2.2.2 code ha]

/-! ## Fields read back as sent -/

theorem of16_be16 {n : Nat} (h : n ≤ 65535) : of16 (u8 (n / 256)) (u8 n) = n := by
  simp only [of16, u8, BitVec.toNat_ofNat]; omega

theorem u8_toNat_le {n : Nat} (h : n ≤ 255) : (u8 n).toNat = n := u8_toNat (by omega)

@[simp] theorem readId_be16 (f : Nat → Command) {n : Nat} (h : n ≤ 65535) : readId f (be16 n) = some (f n) := by
  simp [readId, be16, of16_be16 h]

@[simp] theorem readIdId_be16 (f : Nat → Nat → Command) {m n : Nat} (hm : m ≤ 65535) (hn : n ≤ 65535) :
    readIdId f (be16 m ++ be16 n) = some (f m n) := by
  simp [readIdId, be16, of16_be16 hm, of16_be16 hn]

@[simp] theorem readIdByte_be16 (f : Nat → Nat → Command) {n b : Nat} (hn : n ≤ 65535) (hb : b ≤ 255) :
    readIdByte f (be16 n ++ [u8 b]) = some (f n b) := by
  simp [readIdByte, be16, of16_be16 hn, u8_toNat_le hb]

@[simp] theorem readByte_u8 (f : Nat → Command) {b : Nat} (hb : b ≤ 255) : readByte f [u8 b] = some (f b) := by
  simp [readByte, u8_toNat_le hb]

theorem read8_u8 {b : Nat} (hb : b ≤ 255) (r : List Byte) : read8 (u8 b :: r) = some (b, r) := by
  simp [read8, u8_toNat_le hb]

theorem read16_be16 {n : Nat} (hn : n ≤ 65535) (r : List Byte) : read16 (be16 n ++ r) = some (n, r) := by
  simp [read16, be16, of16_be16 hn]

theorem readText_textBytes {t : List Byte} (h : t.length ≤ 255) (r : List Byte) :
    readText (textBytes t ++ r) = some (t, r) := by
  simp [readText, textBytes, u8_toNat_le h]

/-- A present field is read back, an absent one takes nothing. -/
theorem readOpt_sendOpt {α : Type} {read : List Byte → Option (α × List Byte)} {send : α → List Byte} {x : Option α}
    (h : ∀ a ∈ x, ∀ r, read (send a ++ r) = some (a, r)) (r : List Byte) :
    readOpt x.isSome read (sendOpt send x ++ r) = some (x, r) := by
  cases x with
  | none => simp [readOpt, sendOpt]
  | some a => simp [readOpt, sendOpt, h a rfl r]

theorem readOpt_byte1 {x : Option Nat} (h : OptAtMost 255 x) (r : List Byte) :
    readOpt x.isSome read8 (sendOpt byte1 x ++ r) = some (x, r) :=
  readOpt_sendOpt (fun a ha r => by simpa [byte1] using read8_u8 (h a ha) r) r

theorem readOpt_be16 {x : Option Nat} (h : OptAtMost 65535 x) (r : List Byte) :
    readOpt x.isSome read16 (sendOpt be16 x ++ r) = some (x, r) :=
  readOpt_sendOpt (fun a ha r => read16_be16 (h a ha) r) r

theorem readOpt_text {x : Option (List Byte)} (h : ∀ t ∈ x, t.length ≤ 255) (r : List Byte) :
    readOpt x.isSome readText (sendOpt textBytes x ++ r) = some (x, r) :=
  readOpt_sendOpt (fun a ha r => readText_textBytes (h a ha) r) r

/-- New lines are read back as sent (R177). -/
theorem readLines_bytes (ls : List RawLine) (h : ∀ l ∈ ls, l.text.length ≤ 255) (r : List Byte) :
    readLines ls.length (ls.flatMap RawLine.bytes ++ r) = some (ls, r) := by
  induction ls with
  | nil => rfl
  | cons l ls ih =>
    have hl : readLine (l.bytes ++ (ls.flatMap RawLine.bytes ++ r)) = some (l, ls.flatMap RawLine.bytes ++ r) := by
      simp only [RawLine.bytes, List.cons_append, readLine]
      rw [readText_textBytes (h l (by simp))]
    simp only [List.length_cons, List.flatMap_cons, List.append_assoc, readLines]
    rw [hl]
    simp only
    rw [ih (fun x hx => h x (by simp [hx]))]

end Sys2Proof.Machine
end

