-- ==== Sys2Proof/Tests/Slice0.lean ====
section
/-! SUPPORT. The model's own tests: ill-formed commands are refused by the well-formedness check; single steps give
the values of the manual's worked examples; and for every statement that has hypotheses a concrete state and operands
meet them (`witness_...`, one clause after the other, at the ends of their ranges). -/

open Sys2Proof Sys2Proof.Machine

namespace Sys2Proof.Tests

-- one theorem at a time: the many small kernel evaluations below would otherwise each hold a thread
set_option Elab.async false

/-! ## Small states -/

/-- A line without text. -/
def line (cls : HeightClass) (cue : Fin 5) : Line := ⟨[], .read, cls, cue, false⟩

/-- A STANDBY story under the reset heights. -/
def tale (id : Nat) (p : Option Nat) (lines : List Line) : Story :=
  { Story.create id 48 with p := p, lines := lines, g := geometryOf .reset lines }

/-- The part after reset with some stories in it. -/
def rundown (stories : List Story) : State :=
  { State.reset with
    stories := stories
    pt := ((stories.filter Story.counted).map Story.seconds).sum
    freeLines := 4096 - (stories.map Story.n).sum }

/-- A channel placed in a story, in the given state, at speed and target `v`. -/
def inside (c : ChannelId) (state : ChannelState) (rp : ReadPoint) (v : Int) (s : State) : State :=
  (s.modStory rp.story (fun st => st.setOpen c true)).modChannel c (fun ch =>
    { ch with state := state, readPoint := some rp, speed := v, target := v, tuning := { ch.tuning with vmax := 1023 } })

/-- An ACTIVE station on channel A that holds a deflection. -/
def hold (p : Fin 4) (role : Role) (d : Int) (s : State) : State :=
  s.modStation p (fun st =>
    { st with
      role := role, state := .active, lapse := some 250, held := some d
      lastLevels := some ⟨d, 0, ⟨false, false, false, false, false, false⟩⟩ })

/-- Channel A owned by a station, others waiting. -/
def owned (p : Fin 4) (waiting : List (Fin 4)) (loser : Option (Fin 4)) (idle : Nat) (s : State) : State :=
  { s with arbiterA := ⟨some p, waiting, loser, idle⟩ }

/-- The link in a given state. -/
def linked (state : LinkState) (slot : Option Byte) (s : State) : State :=
  { s with link := { s.link with state := state, slot := slot } }

/-- A head port attached to channel A that sends a GEOMETRY frame. -/
def sending (h : Fin 4) (s : State) : State :=
  s.modHead h (fun hd => { hd with attachment := some .a, sending := some (.geometry .reset), lastKind := .position })

/-- A head port attached to channel A with an idle transmitter. -/
def attached (h : Fin 4) (s : State) : State := s.modHead h (fun hd => { hd with attachment := some .a })

/-- The rundown of section 4.4: 901, 902 (FLOATED), 903. -/
def crossings : State :=
  rundown [tale 901 none [line .standard 0, line .standard 1, line .standard 0],
    { tale 902 none [line .standard 0] with floated := true }, tale 903 none [line .large 2, line .standard 3]]

/-- Four stories, one of each condition: 1 read by A (LIVE), 2 FLOATED under an EDITOR lock, 3 under a FINAL lock,
4 DOOMED and read by B (PARKED). -/
def studio : State :=
  inside .b .parked ⟨4, 0, 5, 0⟩ 0
    (inside .a .live ⟨1, 1, 0, 7⟩ 16
      (rundown [tale 1 (some 60) [line .standard 1, line .spacer 0],
        { tale 2 none [line .small 2] with floated := true, lock := .editor },
        { tale 3 (some 45) [] with lock := .final }, { tale 4 (some 9) [line .large 0] with air := .doomed }]))

/-- The studio with a PRESENTER that owns channel A, an OPERATOR that waits and a PRESENTER that does not. -/
def staffed : State :=
  sending 0 (attached 1 (owned 0 [1] (some 2) 1000 (hold 2 .presenter 0 (hold 1 .operator 30
    (hold 0 .presenter 40 studio)))))

/-- A head port with full queues. -/
def busyHead (requests answers : Nat) (s : State) : State :=
  (sending 0 s).modHead 0 (fun hd =>
    { hd with
      requests := List.replicate requests ⟨1, none, 0, 1⟩
      answers := List.replicate answers (.gone 5 0) })

/-- The state a step leads to. -/
def after (r : Host.Outcome State Fault Refusal) : State :=
  match r with
  | .next t => t
  | _ => .held

/-- The response a step leaves the link answering. -/
def reply (r : Host.Outcome State Fault Refusal) : Option Response :=
  match (after r).link.state with
  | .answering q => some q
  | _ => none

/-! ## Ill-formed commands -/

theorem test_wf_arguments_of_one_frame : (Instr.storyNew (List.replicate 250 0)).wellFormed = false := by decide +kernel
theorem test_wf_unknown_code : (Instr.unknownCommand 0x10 []).wellFormed = false := by decide +kernel
theorem test_wf_unknown_arguments : (Instr.unknownCommand 0xFF (List.replicate 250 0)).wellFormed = false := by
  decide +kernel
theorem test_wf_no_characters : (Instr.faultyFrame []).wellFormed = false := by decide +kernel
theorem test_wf_characters_of_one_frame :
    (Instr.busyReply (List.replicate 255 (goodChar 0))).wellFormed = false := by decide +kernel
theorem test_wf_no_port_characters : (Instr.stationReport 0 []).wellFormed = false := by decide +kernel
theorem test_wf_port_characters_of_one_frame : (Instr.fetch 3 (List.replicate 20 0)).wellFormed = false := by
  decide +kernel
theorem test_wf_faulty_character : (Instr.stationFramingFault 0 (goodChar 16)).wellFormed = false := by decide +kernel
theorem test_wf_boundaries : (Instr.storyNew (List.replicate 249 0)).wellFormed = true
    ∧ (Instr.headFramingFault 0 (goodChar 17)).wellFormed = true := by decide +kernel

/-- No row of the table has bits, so no word spells a command and `withFetchWord` changes nothing. -/
theorem test_no_word_spells_a_command : decodeTableWord 8 0x10 = none
    ∧ State.reset.withFetchWord 8 0x10 = State.reset := by decide +kernel

/-! ## Worked values of the manual -/

/-- R40: a single zero byte yields 0xE1F0. The second value is the widely published check value of this CRC. -/
theorem test_crc : crc16 [0] = 0xE1F0
    ∧ crc16 [0x31, 0x32, 0x33, 0x34, 0x35, 0x36, 0x37, 0x38, 0x39] = 0x29B1 := by decide +kernel

/-- R124: the bytes 0xC8, 0x5A and 0x21 have the check byte 0xBB. -/
theorem test_check_byte : checkByte [0xC8, 0x5A, 0x21] = 0xBB := by decide +kernel

/-- Section 4.1, targets under the reset tuning, D 5, 10, 11, 30, 60, 90, 127, both curves; the last row mirrors. -/
theorem test_speed_law :
    [5, 10, 11, 30, 60, 90, 127].map (speedLaw .reset) = [0, 0, 1, 25, 127, 308, 640]
    ∧ [5, 10, 11, 30, 60, 90, 127].map (speedLaw { Tuning.reset with curve := .linear })
        = [0, 21, 26, 126, 285, 444, 640]
    ∧ speedLaw .reset (-127) = -320 := by decide +kernel

/-- Section 4.2, a reversal: S = 40 under T = −30 with A 3 and B 6. -/
theorem test_ramp_reversal :
    [1, 2, 6, 7, 8, 9, 17, 18].map (fun n => rampAfter .reset (-30) n 40) = [34, 28, 4, 0, -3, -6, -30, -30] := by
  decide +kernel

/-- Section 4.4, line boundary: (903, 1, 47, 124) at S 200 reaches line 2, whose cue 3 fires from the lead. -/
theorem test_step_reaches_a_line :
    let t := after (exec (.channelStepExpiry .a) (inside .a .live ⟨903, 1, 47, 124⟩ 200 crossings))
    t.channelA.readPoint = some ⟨903, 2, 0, 68⟩ ∧ t.cues.lastCue = 3 ∧ (t.output 2).level = .high := by decide +kernel

/-- Section 4.4, story boundary: the FLOATED 902 is passed over, 901 is AIRED. -/
theorem test_step_crosses_forward :
    let t := after (exec (.channelStepExpiry .a) (inside .a .live ⟨901, 3, 31, 200⟩ 1023 crossings))
    t.channelA.readPoint = some ⟨903, 0, 3, 199⟩ ∧ (t.story? 901).map Story.air = some .aired := by decide +kernel

/-- Section 4.5, J = +20 from (901, 1, 20, 100): the walk ends at (903, 1, 36, 100) and two cues fire. -/
theorem test_jog_walks_across_stories :
    let t := jog .a 20 (inside .a .parked ⟨901, 1, 20, 100⟩ 0 crossings)
    t.channelA.readPoint = some ⟨903, 1, 36, 100⟩ ∧ t.cues.count = 2 ∧ t.cues.lastCue = 2 := by decide +kernel

/-- Section 7.7: CUE OUTPUT SET 1, PULSE, width 255 and CUE OUTPUT SET 4, PULSE, without width and level. -/
theorem test_cue_output_set :
    reply (exec (.cueOutputSet [1, 0, 1, 255]) State.reset) = some ⟨.ok, 0x62, .cueOutput .pulse 250 .low⟩
      ∧ reply (exec (.cueOutputSet [4, 0, 0]) State.reset) = some ⟨.ok, 0x62, .cueOutput .pulse 40 .low⟩ := by decide +kernel

/-- Section 1.11: STORY NEW 504 with anchor 0 goes to the head of the running order; 502 twice is a DUPLICATE. -/
theorem test_story_new :
    let s := rundown [tale 501 none [], tale 502 none []]
    (after (exec (.storyNew [0x01, 0xF8, 0, 0]) s)).stories.map Story.id = [504, 501, 502]
      ∧ reply (exec (.storyNew [0x01, 0xF6, 0, 0]) s) = some ⟨.duplicate, 0x10, .empty⟩ := by decide +kernel

/-- Section 5.6, splice 2, on the PARKED channel: line 2 of 12 gives way to LARGE, STANDARD, SPACER. -/
theorem test_splice_anchors :
    let s := inside .b .parked ⟨620, 9, 10, 0⟩ 0 (rundown [tale 620 none (List.replicate 12 (line .standard 0))])
    let t := after (exec (.storySplice [0x02, 0x6C, 2, 1, 3, 0x40, 0, 0x20, 0, 0x60, 0]) s)
    t.channelB.readPoint = some ⟨620, 11, 10, 0⟩ ∧ (t.story? 620).map Story.g = some 496
      ∧ t.freeLines = s.freeLines - 2 := by decide +kernel

/-- Section 6.10, first reading: Rem 69, ShowRem 144, F +56, one untimed story. -/
theorem test_timing_read :
    let lines := fun n => List.replicate n (line .standard 0)
    let s := inside .a .live ⟨402, 4, 10, 0⟩ 0 (rundown [{ tale 401 (some 90) [] with air := .aired },
      tale 402 (some 120) (lines 10), tale 403 (some 45) (lines 5), { tale 404 (some 60) [] with floated := true },
      tale 405 none [], tale 406 (some 30) []])
    reply (exec (.timingRead []) { s with clock := ⟨200, .counting, some 1000, false⟩ })
      = some ⟨.ok, 0x53, .timing ⟨200, .counting, 285, .a, 402, 69, 144, 56, 1, false⟩⟩ := by decide +kernel

/-- Section 11.8: the first frame that ends during a clear puts a BUSY reply into the slot. -/
theorem test_busy_slot :
    (after (exec (.storyInfo [0x01, 0xF5]) (linked (.executing (.clear 4)) none State.reset))).link.slot
      = some 0x1A := by decide +kernel

/-- Section 9.8, at 2000: the OPERATOR's TAKE press overrides the PRESENTER; the waiting station keeps its place. -/
theorem test_override :
    let s := owned 0 [1] (some 0) 0 (hold 2 .operator 0 (hold 1 .presenter 30 (hold 0 .presenter 40 State.reset)))
    let t := after (exec (.stationReport 2 (portFrame [0, 0, 0x10])) s)
    t.arbiterA = ⟨some 2, [1], some 0, 0⟩ ∧ t.tally 0 = .overridden ∧ t.tally 1 = .waiting := by decide +kernel

/-- Section 9.8, at 4000: at the OPERATOR's RELEASE the last-loser ranks after the other waiting station. -/
theorem test_hand_back :
    let s := owned 2 [1, 0] (some 0) 0 (hold 2 .operator 0 (hold 1 .presenter 30 (hold 0 .presenter 40 State.reset)))
    (after (exec (.stationReport 2 (portFrame [0, 0, 0x20])) s)).arbiterA = ⟨some 1, [0], some 2, 0⟩ := by
  decide +kernel

/-- Section 10.9: a FETCH under generation 7 of a story of generation 8 is answered STALE. -/
theorem test_fetch_stale :
    let s := sending 1 (rundown [{ tale 620 none [] with generation := 8 }])
    ((after (exec (.fetch 1 (portFrame [0x02, 0x6C, 1, 7, 5, 4])) s)).head 1).answers = [.stale 620 5 8] := by
  decide +kernel

/-- Section 2.9: the third new text's code 0x09 is stored as 0x7F and counted; a fired line keeps its flag. -/
theorem test_splice_substitutes :
    let old := [line .standard 0, line .standard 0, { line .small 0 with kind := .direction },
      { line .standard 2 with fired := true }, line .spacer 0]
    let s := { rundown [{ tale 710 none old with generation := 3 }] with freeLines := 2 }
    let r := exec (.storySplice [0x02, 0xC6, 2, 2, 3, 0x40, 0, 0x20, 0, 0xA0, 1, 0x09]) s
    reply r = some ⟨.ok, 0x18, .splice 6 240 4 1⟩ ∧ (after r).freeLines = 1
      ∧ ((after r).story? 710).map (fun st => st.lines.map Line.fired)
        = some [false, false, false, false, true, false] := by decide +kernel

/-! ## Witnesses: the queue, reset and start-up -/

/-- For StepRunsTheFrontCommand. -/
theorem witness_step_runs_the_front_command :
    ({ State.reset with pending := [.identify [], .secondExpiry] }).pending = .identify [] :: [.secondExpiry] := rfl

/-- For AnIdleStepPassesOneMillisecond. -/
theorem witness_an_idle_step : State.reset.pending = [] := rfl

/-- For StartUpOpensThePorts. -/
theorem witness_start_up : State.held.started = false ∧ State.reset.started = true
    ∧ frameOf (.identify []) = some (0x64, []) ∧ ([] : List Byte).length ≤ maxArgs := by decide +kernel

/-! ## Witnesses: the gateway link -/

/-- For EveryCommandFrameIsDispatched. -/
theorem witness_every_command_frame : Ready State.reset ∧ (Command.storyNew 65535 0).fits
    ∧ (Command.storyNew 65535 0).args.length ≤ maxArgs ∧ (Command.clockSet (-2147483648)).fits
    ∧ (Command.storyProps 1 (some []) (some 65535) (some 255)).fits
    ∧ (Command.storySplice 1 0 0 [⟨0, List.replicate 235 0x41⟩]).fits
    ∧ (Command.storySplice 1 0 0 [⟨0, List.replicate 235 0x41⟩]).args.length ≤ maxArgs := by
  refine ⟨by decide +kernel, ?_, by decide +kernel, ?_, ?_, ?_, by decide +kernel⟩ <;>
    (unfold Command.fits; decide +kernel)

/-- For MisfitFramesAreAnswered: a code outside the catalogue, and the arguments of a catalogue code one byte short. -/
theorem witness_misfit_frames : Ready State.reset ∧ frameOf (.unknownCommand 0x1C [1]) = some (0x1C, [1])
    ∧ (0x1C : Byte).toNat ∉ catalogueCodes ∧ frameOf (.storyNew [0, 1, 0]) = some (0x10, [0, 1, 0])
    ∧ (0x10 : Byte).toNat ∈ catalogueCodes
    ∧ (∀ cmd : Command, cmd.fits → cmd.code = 0x10 → cmd.args ≠ [0, 1, 0]) := by
  refine ⟨by decide +kernel, by decide +kernel, by decide +kernel, by decide +kernel, by decide +kernel, ?_⟩
  intro cmd _ hc ha
  cases cmd <;> simp [Command.code] at hc
  have := congrArg List.length ha
  simp [Command.args, be16] at this

/-- For FaultyFramesAreAnswered. -/
theorem witness_faulty_frames : Ready State.reset ∧ 0 ≠ crc16 (u8 1 :: [0x64])
    ∧ (List.replicate 250 (0 : Byte)).length = 250 ∧ 250 < (0xFB : Byte).toNat
    ∧ ([] : List Byte).length < (1 : Byte).toNat + 2 ∧ (List.replicate 251 (0 : Byte)).length < (0xFA : Byte).toNat + 2 := by
  decide +kernel

/-- For AFrameIsGoodExactlyWhenItsCrcFits. -/
theorem witness_good_frame : [0x64, 0x00, 0x00].length = 1 + 2
    ∧ goodBody 1 ([0] ++ be16 (crc16 [1, 0])) = some [0] ∧ goodBody 1 [0x64, 0x00, 0x00] = none := by decide +kernel

/-- For FramesInFlightMeetTheBusySlot. -/
theorem witness_in_flight : InFlight (linked (.executing (.clear 0)) none State.reset)
    ∧ InFlight (linked (.answering ⟨.ok, 0x64, .empty⟩) (some 0x10) State.reset)
    ∧ frameOf (.deviceStatus []) = some (0x63, []) ∧ 65535 ≠ crc16 (u8 1 :: [0x63]) := by decide +kernel

/-- For SentFramesFreeTheLink. -/
theorem witness_sent_frames :
    let r : Response := ⟨.ok, 0x64, .empty⟩
    let b : Response := ⟨.busy, 0x10, .empty⟩
    (linked (.answering r) none State.reset).link.state = .answering r ∧ r.status ≠ .busy ∧ b.status = .busy
      ∧ (linked (.answering r) (some 0x10) State.reset).link.slot = some 0x10 := by decide +kernel

/-- For EveryFrameHasOneEnding. -/
theorem witness_every_frame_has_one_ending : Ready State.reset ∧ frameOf (.identify []) = some (0x64, [])
    ∧ maxArgs < (List.replicate 250 (0 : Byte)).length ∧ (List.replicate 249 (0 : Byte)).length ≤ maxArgs := by
  decide +kernel

/-! ## Witnesses: the rundown store -/

/-- A full story table. -/
def full : State := rundown ((List.range 128).map (fun i => tale (i + 1) none []))

/-- For StoryNewInsertsAStory. -/
theorem witness_story_new : Ready studio ∧ studio.isLive 1 = true ∧ studio.isLive 65535 = false
    ∧ studio.stories.length < 128 ∧ Ready full ∧ full.isLive 129 = false ∧ full.isLive 128 = true
    ∧ full.stories.length = 128 := by decide +kernel

/-- For StoryMoveReordersTheRundown. -/
theorem witness_story_move : Ready studio ∧ studio.isLive 0 = false ∧ studio.isLive 65535 = false
    ∧ studio.isLive 4 = true ∧ (studio.story? 1).isSome = true := by decide +kernel

/-- For FloatAndRestoreMoveTheSecondsOfAStory, StoryKillFollowsTheOpenSet, CuesRearmClearsTheFiredFlags. -/
theorem witness_story_conditions : Ready studio ∧ studio.isLive 5 = false
    ∧ (studio.story? 4).any (fun st => decide (st.air = .doomed) && st.openB) = true
    ∧ (studio.story? 2).any (fun st => decide (st.air ≠ .doomed) && st.floated && !st.openA && !st.openB) = true
    ∧ (studio.story? 1).any (fun st => decide (st.air ≠ .doomed) && !st.floated && st.openA) = true := by
  decide +kernel

/-- For StoryPropsWritesThePresentFields. -/
theorem witness_story_props : Ready studio ∧ (Command.storyProps 2 (some [0x41]) (some 5999) (some 1)).fits
    ∧ (Command.storyProps 2 (some [0x41]) (some 5999) (some 1)).args.length ≤ maxArgs
    ∧ (Command.storyProps 1 (some (List.replicate 17 0x41)) none none).fits
    ∧ (studio.story? 2).any (fun st => decide (st.lock ≠ .none)) = true
    ∧ (studio.story? 1).any (fun st => decide (st.lock = .none)) = true
    ∧ (toAutoRetire 1).isNone = false := by
  refine ⟨by decide +kernel, ?_, by decide +kernel, ?_, by decide +kernel, by decide +kernel, by decide +kernel⟩ <;>
    (unfold Command.fits; decide +kernel)

/-- For LocksRiseAndAnEditorLockOpens. -/
theorem witness_locks : Ready studio ∧ studio.isLive 5 = false
    ∧ (studio.story? 3).map Story.lock = some .final ∧ (studio.story? 2).map Story.lock = some .editor
    ∧ (studio.story? 1).map Story.lock = some .none := by decide +kernel

/-- For StoreReadsAnswerAndChangeNothing. -/
theorem witness_store_reads : Ready studio ∧ studio.isLive 0 = false
    ∧ (studio.story? 1).any (fun st => decide (st.lines.length < 3) && decide (2 ≤ st.lines.length)) = true
    ∧ (studio.story? 3).any (fun st => decide (st.lines.length = 0)) = true
    ∧ (∃ x y rest, studio.stories = ([x] ++ [y]) ++ rest ∧ x.id ≠ 2 ∧ y.id = 2) :=
  ⟨by decide +kernel, by decide +kernel, by decide +kernel, by decide +kernel, _, _, _, rfl, by decide +kernel, rfl⟩

/-- For RundownClearEmptiesTheRundown. -/
theorem witness_rundown_clear : Ready staffed ∧ staffed.channelA.state ≠ .unloaded
    ∧ (State.reset.channel .b).state = .unloaded
    ∧ (linked (.executing (.clear 4)) none State.reset).link.state = .executing (.clear 4)
    ∧ (∀ n, studio.link.state ≠ .executing (.clear n)) :=
  ⟨by decide +kernel, by decide +kernel, rfl, rfl, fun _ h => nomatch h⟩

/-! ## Witnesses: the line pool -/

/-- A new line without text. -/
def blank (attr : Byte) : RawLine := ⟨attr, []⟩

/-- Accepted: an insertion below the guard window of the LIVE channel A, and one that removes every line of a story
in which B is PARKED on the last line.
For StorySpliceReplacesTheLines. -/
theorem witness_story_splice : Ready studio ∧ (Command.storySplice 1 3 0 [blank 0xA4]).fits
    ∧ (Command.storySplice 1 3 0 [blank 0xA4]).args.length ≤ maxArgs
    ∧ spliceArgsOk 2 3 0 1 = true ∧ (newLines [blank 0xA4]).isSome = true
    ∧ (studio.story? 1).any (fun st => decide (st.air ≠ .doomed) && decide (st.lock = .none)
        && decide (st.n + 1 ≤ 255) && !guardForbids studio .a st 3 0 && !guardForbids studio .b st 3 0) = true := by
  refine ⟨by decide +kernel, ?_, by decide +kernel, by decide +kernel, by decide +kernel, by decide +kernel⟩
  unfold Command.fits; decide +kernel

/-- For StorySpliceReplacesTheLines. -/
theorem witness_story_splice_under_a_read_point :
    let s := inside .b .parked ⟨903, 2, 31, 255⟩ 0 crossings
    Ready s ∧ spliceArgsOk 2 1 2 0 = true ∧ newLines [] = some []
      ∧ (s.story? 903).any (fun st => st.openB && !guardForbids s .a st 1 2 && !guardForbids s .b st 1 2) = true := by
  decide +kernel

/-- A story with 255 lines, and a part without free lines. -/
def crowded : State := { rundown [tale 9 none (List.replicate 255 (line .small 0)), tale 8 none []] with freeLines := 0 }

/-- For StorySpliceChecksInOrder. -/
theorem witness_splice_checks : Ready studio ∧ studio.isLive 5 = false
    ∧ (Command.storySplice 1 1 1 [blank 0]).fits ∧ (Command.storySplice 1 1 1 [blank 0]).args.length ≤ maxArgs
    ∧ (studio.story? 4).any (fun st => decide (st.air = .doomed) && decide (st.n = 1)) = true
    ∧ (studio.story? 2).any (fun st => decide (st.air ≠ .doomed) && decide (st.lock ≠ .none)) = true
    ∧ Ready crowded ∧ (crowded.story? 9).any (fun st => decide (255 + 0 < st.lines.length + 1)) = true
    ∧ (crowded.story? 8).any (fun st => decide (st.lock = .none) && decide (crowded.freeLines + 0 < 1)) = true
    ∧ (studio.story? 1).any (fun st => st.openA && guardForbids studio .a st 1 1 && decide (studio.channelA.state = .live)
        && decide (1 ≤ studio.channelA.tuning.guard)) = true := by
  refine ⟨by decide +kernel, by decide +kernel, ?_, by decide +kernel, by decide +kernel, by decide +kernel,
    by decide +kernel, by decide +kernel, by decide +kernel, by decide +kernel⟩
  unfold Command.fits; decide +kernel

/-- For StoryCheckAnswersTheCrc. -/
theorem witness_story_check : Ready studio ∧ studio.isLive 5 = false ∧ studio.isLive 1 = true
    ∧ (linked (.executing (.check 1)) none studio).link.state = .executing (.check 1)
    ∧ ((linked (.executing (.check 1)) none studio).story? 1).isSome = true
    ∧ (∀ x, State.reset.link.state ≠ .executing (.check x)) :=
  ⟨by decide +kernel, by decide +kernel, by decide +kernel, rfl, by decide +kernel, fun _ h => nomatch h⟩

/-- The crossings with A PARKED on the last row and END set, one head sending and one idle. -/
def parkedAtEnd : State :=
  attached 1 (sending 0 ((inside .a .parked ⟨903, 2, 31, 255⟩ 0 crossings).modChannel .a
    (fun ch => { ch with endFlag := true })))

/-- For GeometryChangesAtItsCompletion. -/
theorem witness_geometry : Ready studio ∧ studio.channelA.state = .live ∧ Ready parkedAtEnd
    ∧ parkedAtEnd.channelA.state ≠ .live ∧ parkedAtEnd.channelB.state ≠ .live
    ∧ (let s := { linked (.executing .geometry) none parkedAtEnd with pendingHeights := some Heights.reset }
       s.link.state = .executing .geometry ∧ s.pendingHeights = some Heights.reset
        ∧ (s.channel .a).state = .parked ∧ (s.channel .a).endFlag = true ∧ (s.story? 903).isSome = true
        ∧ (s.head 3).attachment = none ∧ (s.channel .b).state ≠ .parked ∧ s.currentStory .b = none)
    ∧ (let s := inside .a .parked ⟨903, 0, 47, 3⟩ 0 crossings
       (s.channel .a).state = .parked ∧ (s.channel .a).endFlag = false ∧ s.currentStory .a = s.story? 903
        ∧ (s.story? 903).any (fun st => decide (st.heightAt ⟨8, 8, 8, 8, 47⟩ 0 ≤ 47)
          && !decide (st.heightAt Heights.reset 0 ≤ 47)) = true)
    ∧ (Command.geometrySet ⟨0, 255, 8, 96, 16⟩).fits ∧ studio.link.state ≠ .executing .geometry := by
  refine ⟨by decide +kernel, by decide +kernel, by decide +kernel, by decide +kernel, by decide +kernel,
    by decide +kernel, by decide +kernel, ?_, by decide +kernel⟩
  unfold Command.fits; decide +kernel

/-- A consistent port that sends, its queues empty and full, and one that is idle.
For GeometryChangesAtItsCompletion. -/
theorem witness_geometry_heads : (parkedAtEnd.head 0).attachment ≠ none ∧ HeadConsistent (parkedAtEnd.head 0)
    ∧ (parkedAtEnd.head 0).sending ≠ none
    ∧ (parkedAtEnd.head 1).attachment ≠ none ∧ HeadConsistent (parkedAtEnd.head 1) ∧ (parkedAtEnd.head 1).sending = none
    ∧ ((busyHead 2 2 parkedAtEnd).head 0).attachment ≠ none ∧ HeadConsistent ((busyHead 2 2 parkedAtEnd).head 0) :=
  ⟨by decide +kernel, by decide +kernel, by decide +kernel, by decide +kernel, by decide +kernel, by decide +kernel,
    by decide +kernel, by decide +kernel⟩

/-! ## Witnesses: the scroll channels -/

/-- The numbers 0 and 1 name the channels, 2 and above none; the state has a LIVE and a PARKED channel in a story that
stays, readable and so a story to load again, and in one that is DOOMED and held by that channel alone; the part after
reset has both UNLOADED.
For ChannelLoadPlacesTheReadPoint, ChannelRunStartsMotion, ParkStopsAndUnloadLeaves. -/
theorem witness_channels : toChannel 0 = some .a ∧ toChannel 1 = some .b ∧ toChannel 2 = none
    ∧ Ready studio ∧ (studio.channel .a).state = .live ∧ (studio.channel .a).readPoint = some ⟨1, 1, 0, 7⟩
    ∧ (studio.channel .b).state = .parked ∧ (studio.channel .b).readPoint = some ⟨4, 0, 5, 0⟩
    ∧ (studio.story? 1).any (fun st => !st.floated && decide (st.air ≠ .doomed)) = true
    ∧ (studio.story? 4).any (fun st => decide (st.air = .doomed) && (st.setOpen .b false).openEmpty) = true
    ∧ studio.currentStory .a = studio.story? 1 ∧ studio.currentStory .b = studio.story? 4
    ∧ crossings.currentStory .a = none
    ∧ (studio.story? 2).any (fun st => st.floated) = true ∧ studio.isLive 5 = false
    ∧ Ready crossings ∧ (crossings.channel .a).readPoint = none ∧ (crossings.channel .a).state = .unloaded
    ∧ (crossings.story? 901).any (fun st => !st.floated && decide (st.air ≠ .doomed)) = true := by decide +kernel

/-- For ChannelTuneClampsAndLimits. -/
theorem witness_channel_tune : Ready studio
    ∧ (Command.channelTune 1 ⟨some 15, some 1024, some 32, some 1, some 0, some 65, none, none⟩).fits
    ∧ (Command.channelTune 0 ⟨none, none, none, some 2, none, none, none, none⟩).fits := by
  refine ⟨by decide +kernel, ?_, ?_⟩ <;> (unfold Command.fits; decide +kernel)

/-- For ChannelStatusReportsAndClears. -/
theorem witness_channel_status : Ready staffed ∧ (staffed.arbiter .a).owner = some 0 ∧ (staffed.arbiter .b).owner = none
    ∧ staffed.cues.lead = .a := by decide +kernel

/-! ## Witnesses: stations, heads, clock, cues -/

/-- An owner before a waiting station, an owner with an empty list, a waiting station, a last-loser, and one that is
neither.
For StationSetReconfigures. -/
theorem witness_station_set : Ready staffed ∧ OwnershipExact staffed
    ∧ (staffed.arbiter (staffed.station 0).channel).owner = some 0
    ∧ (staffed.arbiter (staffed.station 0).channel).waiting = [1]
    ∧ (staffed.arbiter (staffed.station 2).channel).lastLoser = some 2
    ∧ (staffed.arbiter (staffed.station 3).channel).owner ≠ some 3
    ∧ (let s := owned 0 [] none 5000 staffed
       Ready s ∧ OwnershipExact s ∧ (s.arbiter .a).owner = some 0 ∧ successor s none [] = none)
    ∧ (Command.stationSet 0 ⟨some 2, some 1, some 16, some 49, some 5001⟩).fits
    ∧ (Command.stationSet 3 ⟨none, none, none, some 1000, none⟩).fits
    ∧ (Command.stationSet 4 ⟨some 3, none, none, none, none⟩).fits := by
  refine ⟨by decide +kernel, by decide +kernel, by decide +kernel, by decide +kernel, by decide +kernel,
    by decide +kernel, by decide +kernel, ?_, ?_, ?_⟩ <;> (unfold Command.fits; decide +kernel)

/-- For StationStatusReportsAndClears, HeadCommandsAttachAndReport. -/
theorem witness_ports : Ready staffed ∧ (3 : Fin 4).val = 3 ∧ toChannel 1 = some .b
    ∧ (staffed.head 0).sending ≠ none ∧ (staffed.head 3).sending = none ∧ (staffed.head 3).answers = []
    ∧ (staffed.head 3).requests = [] ∧ HeadConsistent ((busyHead 1 2 staffed).head 0) := by decide +kernel

/-- For ClockCommandsSetHoldAndResume, SecondExpiryCountsDown, IdentifyNamesThePart, DeviceStatusReportsTheSources. -/
theorem witness_clock : Ready State.reset ∧ (-2147483648 : Int) ≤ 2147483647
    ∧ ({ State.reset with clock := ⟨1, .counting, some 0, false⟩ }).clock.state = .counting
    ∧ State.reset.clock.state = .stopped := by decide +kernel

/-- For TimingReadReportsTheProgramme. -/
theorem witness_timing_read : Ready studio ∧ studio.clearInProgress = false
    ∧ (∃ st rest, studio.stories = [] ++ st :: rest ∧ st.id = 1)
    ∧ (studio.channel studio.cues.lead).readPoint = some ⟨1, 1, 0, 7⟩
    ∧ (crossings.channel crossings.cues.lead).readPoint = none
    ∧ Ready { State.reset with clearInProgress := true } :=
  ⟨by decide +kernel, rfl, ⟨_, _, rfl, rfl⟩, by decide +kernel, by decide +kernel, by decide +kernel⟩

/-- For CueCommandsConfigureTheOutputs. -/
theorem witness_cue_commands : Ready State.reset ∧ (3 : Fin 4).val + 1 = 4 ∧ CueAction.low.code = 3
    ∧ (Command.cueOutputSet 4 3 (some 255) (some 1)).fits ∧ (Command.cueOutputSet 5 0 none none).fits
    ∧ (Command.cueOutputSet 4 3 none none).fits := by
  refine ⟨by decide +kernel, rfl, rfl, ?_, ?_, ?_⟩ <;> (unfold Command.fits; decide +kernel)

/-- For CuesFireAndPulsesEnd. -/
theorem witness_cues_fire :
    let s := studio.modOutput 0 (fun o => { o with level := .high, pulse := some 0 })
    (s.output 0).pulse ≠ none ∧ (s.output 1).pulse = none ∧ s.cues.lead ≠ .b ∧ s.cues.lead = .a
      ∧ (s.story? 1).any (fun st => (st.lines[1 - 1]?).any (fun l => decide (l.cue.val = 0 + 1) && !l.fired)) = true
      ∧ (s.story? 1).any (fun st => (st.lines[2 - 1]?).any (fun l => decide (l.cue = 0))) = true := by decide +kernel

/-! ## Witnesses: motion -/

/-- What every clause of the step's statement asks of the operands. -/
abbrev steps (rp : ReadPoint) (s : State) : Prop :=
  s.channelA.stepTimer = true ∧ s.channelA.state = .live ∧ s.channelA.readPoint = some rp
    ∧ (s.story? rp.story).any (fun st => decide (st.holds s.heights rp)) = true

/-- And of the state. -/
abbrev sound (s : State) : Prop := GeometryExact s ∧ SpeedsBounded s ∧ StoriesDistinct s

/-- Channel A LIVE in the crossings at a given place and speed. -/
abbrev riding (rp : ReadPoint) (v : Int) : State := inside .a .live rp v crossings

/-- For AStepMovesTheReadPointBySpeed. -/
theorem witness_step_within : steps ⟨901, 1, 0, 0⟩ (riding ⟨901, 1, 0, 0⟩ 16) ∧ sound (riding ⟨901, 1, 0, 0⟩ 16)
    ∧ steps ⟨901, 1, 0, 0⟩ (riding ⟨901, 1, 0, 0⟩ 0) ∧ sound (riding ⟨901, 1, 0, 0⟩ 0) :=
  ⟨by decide +kernel, ⟨by decide +kernel, by decide +kernel, by decide +kernel⟩, by decide +kernel,
    ⟨by decide +kernel, by decide +kernel, by decide +kernel⟩⟩

/-- For AStepMovesTheReadPointBySpeed. -/
theorem witness_step_forward : steps ⟨901, 3, 31, 255⟩ (riding ⟨901, 3, 31, 255⟩ 1) ∧ sound (riding ⟨901, 3, 31, 255⟩ 1)
    ∧ (riding ⟨901, 3, 31, 255⟩ 1).readableAfter 901 = [903] :=
  ⟨by decide +kernel, ⟨by decide +kernel, by decide +kernel, by decide +kernel⟩, by decide +kernel⟩

/-- For AStepMovesTheReadPointBySpeed. -/
theorem witness_step_backward : steps ⟨903, 0, 0, 0⟩ (riding ⟨903, 0, 0, 0⟩ (-1)) ∧ sound (riding ⟨903, 0, 0, 0⟩ (-1))
    ∧ (riding ⟨903, 0, 0, 0⟩ (-1)).readableBefore 903 = [901] :=
  ⟨by decide +kernel, ⟨by decide +kernel, by decide +kernel, by decide +kernel⟩, by decide +kernel⟩

/-- For AStepMovesTheReadPointBySpeed. -/
theorem witness_step_readable : StoriesDistinct crossings
    ∧ crossings.stories = [crossings.stories[0]] ++ crossings.stories[1] :: [crossings.stories[2]] := by decide +kernel

/-- For AStepMovesTheReadPointBySpeed. -/
theorem witness_step_clamps : steps ⟨903, 2, 31, 255⟩ (riding ⟨903, 2, 31, 255⟩ 1) ∧ sound (riding ⟨903, 2, 31, 255⟩ 1)
    ∧ (riding ⟨903, 2, 31, 255⟩ 1).readableAfter 903 = []
    ∧ steps ⟨901, 0, 0, 0⟩ (riding ⟨901, 0, 0, 0⟩ (-1)) ∧ sound (riding ⟨901, 0, 0, 0⟩ (-1))
    ∧ (riding ⟨901, 0, 0, 0⟩ (-1)).readableBefore 901 = [] :=
  ⟨by decide +kernel, ⟨by decide +kernel, by decide +kernel, by decide +kernel⟩, by decide +kernel,
    by decide +kernel, ⟨by decide +kernel, by decide +kernel, by decide +kernel⟩, by decide +kernel⟩

/-- A line reached at its first row, by a step from the last place before it, and one not reached, a fraction short of it;
a head that sends and an idle one.
For AStepMovesTheReadPointBySpeed. -/
theorem witness_step_reports : steps ⟨901, 1, 31, 255⟩ (riding ⟨901, 1, 31, 255⟩ 1) ∧ sound (riding ⟨901, 1, 31, 255⟩ 1)
    ∧ (crossings.story? 901).map (fun st => (st.firstRow .reset 2, st.distance .reset ⟨901, 1, 31, 255⟩))
        = some (80, 256 * 80 - 1)
    ∧ steps ⟨901, 1, 31, 254⟩ (riding ⟨901, 1, 31, 254⟩ 1)
    ∧ (let s := attached 1 (sending 0 (riding ⟨901, 1, 31, 254⟩ 1))
       steps ⟨901, 1, 31, 254⟩ s ∧ (s.head 0).sending ≠ none ∧ (s.head 0).attachment = some .a
        ∧ (s.head 1).sending = none ∧ (s.head 1).attachment = some .a ∧ (s.head 2).attachment = none
        ∧ HeadConsistent (s.head 0)) :=
  ⟨by decide +kernel, ⟨by decide +kernel, by decide +kernel, by decide +kernel⟩, by decide +kernel, by decide +kernel,
    by decide +kernel⟩

/-- For AStepAtRestHandsPositionFrames. -/
theorem witness_step_at_rest : (State.held.channel .a).stepTimer = false ∧ (parkedAtEnd.channel .a).stepTimer = true
    ∧ (parkedAtEnd.channel .a).state ≠ .live ∧ (parkedAtEnd.channel .a).readPoint = some ⟨903, 2, 31, 255⟩
    ∧ (parkedAtEnd.head 0).attachment = some .a ∧ (parkedAtEnd.head 0).sending ≠ none
    ∧ HeadConsistent (parkedAtEnd.head 0)
    ∧ (parkedAtEnd.head 1).attachment = some .a ∧ (parkedAtEnd.head 1).sending = none
    ∧ (parkedAtEnd.head 1).pendingGeom = none ∧ (parkedAtEnd.head 3).attachment ≠ some .a
    ∧ (crossings.channel .b).readPoint = none := by decide +kernel

/-- For TheRampGrowsAndShrinks. -/
theorem witness_ramp : 1 ≤ Tuning.reset.rampUp ∧ 1 ≤ Tuning.reset.rampDown ∧ (0 : Int) ≤ 0 ∧ (0 : Int) < 640
    ∧ (40 : Int) * -30 < 0 ∧ 7 ≤ ((40 : Int).natAbs + 6 - 1) / 6 := by decide +kernel

/-- For TheSpeedLawGivesTheTarget. -/
theorem witness_speed_law : TuningBounded .reset ∧ TuningBounded { Tuning.reset with curve := .linear, dz := 31 }
    ∧ Tuning.reset.dz < (127 : Int).natAbs ∧ (6 : Int).natAbs ≤ Tuning.reset.dz ∧ (-127 : Int) ≤ 127 := by decide +kernel

/-- A LIVE channel with an owner who holds 40, not forced and forced by END; one that is not LIVE, one without an owner
and one that is paused.
For TheSpeedLawGivesTheTarget. -/
theorem witness_target : (staffed.channel .a).state = .live ∧ (staffed.arbiter .a).owner = some 0
    ∧ (staffed.channel .a).paused = false ∧ (staffed.station 0).held = some 40
    ∧ (staffed.channel .a).endFlag = false ∧ (staffed.channel .a).startFlag = false
    ∧ 0 < speedLaw (staffed.channel .a).tuning 40
    ∧ (let s := staffed.modChannel .a (fun ch => { ch with endFlag := true })
       (s.channel .a).state = .live ∧ (s.channel .a).paused = false ∧ (s.channel .a).endFlag = true)
    ∧ (staffed.channel .b).state ≠ .live ∧ (studio.arbiter .a).owner = none
    ∧ ((staffed.modChannel .a (fun ch => { ch with paused := true })).channel .a).paused = true := by decide +kernel

/-! ## Witnesses: events at the ports -/

/-- Presses on a channel in the second of two readable stories, in its slug band and below it, and at both ends.
For AnAcceptedReportIsTakenAndAnswered. -/
theorem witness_presses :
    let s := riding ⟨903, 0, 47, 0⟩ 0
    (s.channel .a).state ≠ .unloaded ∧ (s.channel .a).readPoint = some ⟨903, 0, 47, 0⟩
      ∧ s.readableBefore 903 = [901] ∧ s.readableAfter 903 = [] ∧ s.currentStory .a = s.story? 903
      ∧ s.currentStory .b = none ∧ (s.channel .b).state = .unloaded
      ∧ (riding ⟨901, 1, 0, 0⟩ 0).readableAfter 901 = [903] ∧ (riding ⟨901, 0, 0, 0⟩ 0).readableBefore 901 = [] := by
  decide +kernel

/-- A channel in motion each way and at rest, at the limit.
For AnAcceptedReportIsTakenAndAnswered. -/
theorem witness_speed_bar : 0 < (riding ⟨901, 1, 0, 0⟩ 1023).channelA.speed ∧ (riding ⟨901, 1, 0, 0⟩ (-1)).channelA.speed < 0
    ∧ ChannelBounded (riding ⟨901, 1, 0, 0⟩ 1023).channelA ∧ (riding ⟨901, 1, 0, 0⟩ 0).channelA.speed = 0 := by
  decide +kernel

/-- What the statement of a jog asks of a split of the path: the stories passed, the story it ends in and the rest. -/
abbrev splits (s : State) (rp : ReadPoint) (before after path gone rest : List Story) (st x : Story) : Prop :=
  s.channelA.readPoint = some rp ∧ s.stories = before ++ st :: after ∧ st.holds s.heights rp ∧ path = gone ++ x :: rest

/-- Forward from row 63 of 901 (G 144) and 903 (G 128) with jog step 8: J 10 ends on the last row of 901, from row 64 on
row 0 of 903; J 63 clamps in 903. No channel flag bars a jog, and the state is sound.
For AnAcceptedReportIsTakenAndAnswered. -/
theorem witness_jog_forward :
    let s := riding ⟨901, 1, 15, 9⟩ 0
    let f := s.stories[0]
    let x := s.stories[2]
    splits s ⟨901, 1, 15, 9⟩ [] [s.stories[1], x] (f :: [s.stories[1], x].filter Story.readable) [] [x] f f
      ∧ splits s ⟨901, 1, 15, 9⟩ [] [s.stories[1], x] (f :: [s.stories[1], x].filter Story.readable) [f] [] f x
      ∧ f.rowOf s.heights 1 15 + 10 * 8 + 1 = f.g ∧ f.rowOf s.heights 1 16 + 10 * 8 = f.g
      ∧ f.g + x.g ≤ f.rowOf s.heights 1 15 + 63 * 8
      ∧ (s.channel .a).tuning.jogStep = 8 ∧ (s.channel .a).endFlag = false ∧ (s.channel .a).startFlag = false := by
  decide +kernel

/-- Backward from row 8 of 903: J −1 ends on its row 0, J −2 in 901, J −63 clamps at the head.
For AnAcceptedReportIsTakenAndAnswered. -/
theorem witness_jog_backward :
    let s := riding ⟨903, 0, 8, 0⟩ 0
    let f := s.stories[2]
    let x := s.stories[0]
    splits s ⟨903, 0, 8, 0⟩ [x, s.stories[1]] [] (f :: [x, s.stories[1]].reverse.filter Story.readable) [] [x] f f
      ∧ splits s ⟨903, 0, 8, 0⟩ [x, s.stories[1]] [] (f :: [x, s.stories[1]].reverse.filter Story.readable) [f] [] f x
      ∧ 1 * 8 ≤ f.rowOf s.heights 0 8 ∧ f.rowOf s.heights 0 8 + x.g < 2 * 8 + x.g
      ∧ 2 * 8 ≤ f.rowOf s.heights 0 8 + x.g ∧ f.rowOf s.heights 0 8 + x.g < 63 * 8 := by
  decide +kernel

/-- For AnAcceptedReportIsTakenAndAnswered. -/
theorem witness_jog_sound : StoriesDistinct (riding ⟨903, 0, 8, 0⟩ 0) ∧ GeometryExact (riding ⟨903, 0, 8, 0⟩ 0)
    ∧ StoriesDistinct (riding ⟨901, 1, 15, 9⟩ 0) ∧ GeometryExact (riding ⟨901, 1, 15, 9⟩ 0) :=
  ⟨by decide +kernel, by decide +kernel, by decide +kernel, by decide +kernel⟩

/-- For AnAcceptedReportIsTakenAndAnswered, ARefusedReportOnlySetsItsFlag. -/
theorem witness_reports : StationReceives staffed 0 ∧ (staffed.station 0).role ≠ .off ∧ (staffed.station 0).sending = none
    ∧ StationReceives staffed 3 ∧ (staffed.station 3).role = .off
    ∧ (State.reset.channel (State.reset.station 0).channel).state = .unloaded
    ∧ (staffed.channel (staffed.station 0).channel).state = .live
    ∧ endAroundSum (u8 1 :: [0] ++ [0xFE]) = 0xFF#8 ∧ endAroundSum (u8 3 :: [0, 0, 0] ++ [0]) ≠ 0xFF#8
    ∧ endAroundSum (u8 3 :: [0, 0, 0x40] ++ [0xBC]) = 0xFF#8 ∧ (0x40 : Byte).getLsbD 6 = true := by decide +kernel

/-- A station and a head port holding a start marker. -/
def marked : State :=
  (staffed.modStation 0 (fun st => { st with rx := .marker, gap := some 5 })).modHead 0
    (fun hd => { hd with rx := .marker, gap := some 5 })

/-- For PortFaultsAbandonTheFrame. -/
theorem witness_port_faults : marked.started = true ∧ (marked.station 0).rx = .marker ∧ (marked.station 0).rx ≠ .hunting
    ∧ (staffed.station 0).rx = .hunting ∧ (marked.head 0).rx = .marker ∧ 16 < (17 : Byte).toNat
    ∧ (0 : Byte).toNat = 0 := by decide +kernel

/-- For ALapseSilencesTheStation. -/
theorem witness_lapse : (staffed.station 3).lapse = none ∧ (staffed.station 0).lapse ≠ none
    ∧ (staffed.arbiter .a).owner = some 0 ∧ (staffed.station 0).channel = .a ∧ 0 ∉ (staffed.arbiter .a).waiting
    ∧ (staffed.arbiter .a).waiting ≠ [] ∧ (staffed.station 2).lapse ≠ none ∧ (staffed.arbiter .a).owner ≠ some 2
    ∧ ((owned 0 [] none 0 staffed).arbiter .a).waiting = [] := by decide +kernel

/-- For TheHandBackRanksTheWaitingStations. -/
theorem witness_hand_back : ([] : List (Fin 4)).Nodup ∧ ([2, 0, 1] : List (Fin 4)).Nodup
    ∧ ([0, 1, 2] : List (Fin 4)).Perm [2, 0, 1] := by decide +kernel

/-- The owner of a channel, not in its list; the four outcomes of a claim, and no claim: 3 with no owner, 1 overrides 0, 2 takes over from 0, 1 waits.
For ClaimsAreSettledByRoleAndIdleTime. -/
theorem witness_claims : (staffed.arbiter .a).owner = some 0 ∧ (staffed.arbiter .a).owner ≠ some 1
    ∧ (staffed.station 0).channel = .a ∧ 0 ∉ (staffed.arbiter .a).waiting
    ∧ (staffed.station 1).role = .operator ∧ (staffed.station 0).role = .presenter
    ∧ (staffed.station 2).role = (staffed.station 0).role ∧ staffed.handOff ≤ (staffed.arbiter .a).idle
    ∧ (staffed.channel .a).tuning.dz < (30 : Int).natAbs ∧ ¬(staffed.channel .a).tuning.dz < (6 : Int).natAbs
    ∧ (State.reset.arbiter .a).owner = none := by decide +kernel

/-- For AFetchIsAnsweredFromTheStory. -/
theorem witness_fetch : HeadReceives staffed 1 ∧ (staffed.head 1).attachment ≠ none ∧ (staffed.head 3).attachment = none
    ∧ (staffed.head 1).sending = none ∧ (staffed.head 1).waitingPos = none ∧ (staffed.head 1).pendingGeom = none
    ∧ (staffed.head 0).sending ≠ none ∧ (staffed.head 0).answers.length < 2
    ∧ ((busyHead 2 2 studio).head 0).requests.length = 2 ∧ ((busyHead 1 2 studio).head 0).answers.length = 2
    ∧ HeadReceives (busyHead 2 2 studio) 0 ∧ OptAtMost 255 (some 255) ∧ studio.isLive 65535 = false
    ∧ (studio.story? 1).any (fun st => decide (st.generation ≠ 255) && decide (st.lines.length < 3)) = true
    ∧ endAroundSum (u8 1 :: [0] ++ [0xFE]) = 0xFF#8 ∧ [(0 : Byte)].length ≠ 6 := by decide +kernel

/-- For AHeadTransmitterTakesTurns. -/
theorem witness_head_transmitter : (staffed.head 1).sending = none
    ∧ (let hd := (busyHead 0 2 studio).head 0
       hd.sending ≠ none ∧ hd.requests = [] ∧ hd.lastKind = .position ∧ hd.answers ≠ [] ∧ HeadConsistent hd)
    ∧ (let hd := { (busyHead 0 0 studio).head 0 with pendingGeom := some Heights.reset }
       hd.sending ≠ none ∧ hd.answers = [] ∧ hd.pendingGeom ≠ none)
    ∧ (let hd := { (busyHead 0 1 studio).head 0 with waitingPos := some (positionFrame studio .a), lastKind := .answer }
       hd.pendingGeom = none ∧ hd.waitingPos ≠ none ∧ hd.lastKind = .answer)
    ∧ HeadConsistent ((busyHead 2 2 studio).head 0) := by decide +kernel

/-- Requests that wait, the kind sent last a position and an answer.
For AHeadTransmitterTakesTurns. -/
theorem witness_head_requests :
    (let hd := (busyHead 2 2 studio).head 0
     HeadConsistent hd ∧ hd.requests = [⟨1, none, 0, 1⟩, ⟨1, none, 0, 1⟩] ∧ hd.answers = [.gone 5 0, .gone 5 0]
      ∧ hd.lastKind = .position ∧ hd.waitingPos = none)
    ∧ (let hd := { (busyHead 1 2 studio).head 0 with pendingGeom := some Heights.reset, lastKind := .answer }
       HeadConsistent hd ∧ hd.pendingGeom ≠ none ∧ hd.lastKind = .answer) := by decide +kernel

/-- Requests that wait, and a position frame whose turn it is.
For AHeadTransmitterTakesTurns. -/
theorem witness_head_position :
    (let hd := { (busyHead 1 2 studio).head 0 with
         waitingPos := some (positionFrame studio .a), lastKind := .answer }
     HeadConsistent hd ∧ hd.pendingGeom = none ∧ hd.waitingPos ≠ none) := by decide +kernel

/-! ## Witnesses: what every step keeps -/

/-- A state in use meets every invariant.
For EveryStepAccountsForStoriesSecondsAndLines. -/
theorem witness_invariants_store : StoreSound staffed ∧ RecordsSound staffed := by decide +kernel
/-- For EveryStepKeepsOpenSetsAndGeometry. -/
theorem witness_invariants_open_sets : OpenSetsSound staffed ∧ GeometrySound staffed := by decide +kernel
/-- For EveryStepKeepsReadPointsInside, EveryStepKeepsSpeedsWithinLimits. -/
theorem witness_invariants_motion : ReadPointsInside staffed ∧ ClampsAtEdges staffed ∧ SpeedsBounded staffed :=
  ⟨by decide +kernel, by decide +kernel, by decide +kernel⟩
/-- For EveryStepKeepsOwnershipExact, EveryStepKeepsPortsLinkAndShowConsistent. -/
theorem witness_invariants_rest :
    OwnershipSound staffed ∧ HeadsConsistent staffed ∧ LinkSound staffed ∧ ShowSound staffed :=
  ⟨by decide +kernel, by decide +kernel, by decide +kernel, by decide +kernel⟩

/-- And a step leads on from it. -/
theorem witness_a_step : ∃ t, step { staffed with pending := [.channelStepExpiry .a] } = .next t := ⟨_, rfl⟩

end Sys2Proof.Tests
end

section
/-! PROOF. The reading commands of the store (R17, R18, R36): what a lookup finds in the running order, which records a
range names, and what STORY READ, ORDER LIST and STORY INFO answer from them. -/

namespace Sys2Proof.Machine

/-! ## The records of a story -/

/-- The records of a story in index order, the slug record at index 0 (R36). -/
def Story.recs (st : Story) : List Rec := .slug st.slug :: st.lines.map .line

@[simp] theorem Story.length_recs (st : Story) : st.recs.length = st.n + 1 := by simp [Story.recs, Story.n]

theorem Story.recs_getElem? (st : Story) (k : Nat) : st.recs[k]? = st.recAt k := by
  cases k with
  | zero => rfl
  | succ k => simp [Story.recs, Story.recAt]

/-- Looking up indices in turn from a first one on gives a segment of the list; an index past the end adds nothing. -/
theorem filterMap_range_getElem? {α : Type} (l : List α) (first m : Nat) :
    (List.range m).filterMap (fun i => l[first + i]?) = (l.drop first).take m := by
  induction m with
  | zero => rfl
  | succ m ih =>
    rw [List.range_succ, List.filterMap_append, ih, List.take_add_one, List.getElem?_drop]
    cases h : l[first + m]? <;> simp only [List.filterMap_cons, List.filterMap_nil, h, Option.toList]

/-- The records that a first index and a count name are a segment of the story's records. -/
theorem Story.recsFrom_eq (st : Story) (first count : Nat) :
    st.recsFrom first count = (st.recs.drop first).take count := by
  simp only [Story.recsFrom, ← Story.recs_getElem?, filterMap_range_getElem?]
  rw [List.take_eq_take_iff, List.length_drop, Story.length_recs, Nat.min_assoc, Nat.min_self]

theorem Story.length_recsFrom (st : Story) (first count : Nat) :
    (st.recsFrom first count).length = min count (st.n + 1 - first) := by
  simp [st.recsFrom_eq]

theorem Story.recsFrom_getElem? (st : Story) (first : Nat) {count i : Nat} (h : i < count) :
    (st.recsFrom first count)[i]? = st.recAt (first + i) := by
  rw [st.recsFrom_eq, List.getElem?_take_of_lt h, List.getElem?_drop, st.recs_getElem?]

/-! ## Places in the running order -/

theorem State.story?_eq_none {s : State} {id : Nat} (h : s.isLive id = false) : s.story? id = none := by
  simpa [State.isLive] using h

/-- The position of a live story names its record in the running order (R17). -/
theorem State.stories_position {s : State} {id : Nat} {st : Story} (h : s.story? id = some st) :
    s.stories[s.position id - 1]? = some st := by
  simp only [State.story?, State.position, Nat.add_sub_cancel] at h ⊢
  generalize s.stories = l at h ⊢
  induction l with
  | nil => simp at h
  | cons x xs ih =>
    by_cases hx : x.id = id
    · simpa [List.findIdx_cons, hx] using h
    · simpa [List.findIdx_cons, beq_false_of_ne hx] using ih (by simpa [hx] using h)

/-- The stories after the first one with a given ID. -/
theorem drop_dropWhile_id {pre after : List Story} {x : Story} {id : Nat} (hx : x.id = id)
    (hpre : ∀ y ∈ pre, y.id ≠ id) :
    ((pre ++ [x] ++ after).dropWhile (fun st => st.id != id)).drop 1 = after := by
  have hp : ∀ y ∈ pre, (fun st : Story => st.id != id) y = true := fun y hy => by simpa using hpre y hy
  rw [List.append_assoc, List.dropWhile_append_of_pos hp]
  simp [hx]

/-! ## What the reading commands answer -/

theorem cmdStoryInfo_absent {s : State} {id : Nat} (h : s.isLive id = false) :
    cmdStoryInfo id s = refuse .notFound s := by
  simp [cmdStoryInfo, State.story?_eq_none h]

theorem cmdStoryInfo_live {s : State} {id : Nat} {st : Story} (h : s.story? id = some st) :
    cmdStoryInfo id s = okay (.info (st.report (s.position id))) s := by
  simp [cmdStoryInfo, h]

theorem cmdStoryRead_absent {s : State} {id : Nat} (h : s.isLive id = false) (first count : Nat) :
    cmdStoryRead id first count s = refuse .notFound s := by
  simp [cmdStoryRead, State.story?_eq_none h]

theorem cmdStoryRead_past_end {s : State} {id : Nat} {st : Story} (h : s.story? id = some st) {first : Nat}
    (hf : st.n < first) (count : Nat) : cmdStoryRead id first count s = refuse .argument s := by
  simp [cmdStoryRead, h, hf]

theorem cmdStoryRead_live {s : State} {id : Nat} {st : Story} (h : s.story? id = some st) {first : Nat}
    (hf : first ≤ st.n) (count : Nat) :
    cmdStoryRead id first count s
      = okay (.lines id st.generation st.n first (st.recsFrom first (clampNat 1 8 count))) s := by
  simp [cmdStoryRead, h, Nat.not_lt.mpr hf]

theorem cmdOrderList_absent {s : State} {id : Nat} (hid : id ≠ 0) (h : s.isLive id = false) (count : Nat) :
    cmdOrderList id count s = refuse .notFound s := by
  simp [cmdOrderList, hid, h]

/-- The payload of ORDER LIST when `after` follows in the running order: the more flag and the entries (R18). -/
def orderPayload (count : Nat) (after : List Story) : Payload :=
  .order (decide (max 1 (min 32 count) < after.length))
    ((after.take (max 1 (min 32 count))).map (fun x => ⟨x.id, x.air, x.floated⟩))

/-- Fewer entries are listed than follow exactly when more follow than the clamped count. -/
theorem length_take_lt_iff {α : Type} (k : Nat) (l : List α) : (l.take k).length < l.length ↔ k < l.length := by
  rw [List.length_take]
  omega

theorem cmdOrderList_from_start (count : Nat) (s : State) :
    cmdOrderList 0 count s = okay (orderPayload count s.stories) s := by
  simp only [cmdOrderList, orderPayload, clampNat, ne_eq, not_true_eq_false, false_and, if_false, if_true,
    length_take_lt_iff]

theorem cmdOrderList_after {s : State} {id : Nat} (hid : id ≠ 0) {pre after : List Story} {x : Story} (hx : x.id = id)
    (hpre : ∀ y ∈ pre, y.id ≠ id) (hs : s.stories = pre ++ [x] ++ after) (count : Nat) :
    cmdOrderList id count s = okay (orderPayload count after) s := by
  have hlive : s.isLive id = true := State.isLive_iff_mem.mpr (by simp [hs, hx])
  simp only [cmdOrderList, orderPayload, clampNat, hlive, hid, hs, drop_dropWhile_id hx hpre, length_take_lt_iff,
    Bool.true_eq_false, and_false, if_false]

/-! ## The rows -/

theorem readStoryRead_be16 {id first count : Nat} (hid : id ≤ 65535) (hf : first ≤ 255) (hc : count ≤ 255) :
    readStoryRead (be16 id ++ [u8 first, u8 count]) = some (.storyRead id first count) := by
  simp [readStoryRead, be16, of16_be16 hid, u8_toNat_le hf, u8_toNat_le hc]

theorem exec_storyInfo {id : Nat} (hid : id ≤ 65535) {s : State} (hs : Ready s) :
    exec (.storyInfo (be16 id)) s = .next (conclude 0x1A (cmdStoryInfo id s)) :=
  exec_command rfl (by simp [be16, maxArgs]) rfl (readId_be16 Command.storyInfo hid) hs

theorem exec_storyRead {id first count : Nat} (hid : id ≤ 65535) (hf : first ≤ 255) (hc : count ≤ 255) {s : State}
    (hs : Ready s) :
    exec (.storyRead (be16 id ++ [u8 first, u8 count])) s
      = .next (conclude 0x19 (cmdStoryRead id first count s)) :=
  exec_command rfl (by simp [be16, maxArgs]) rfl (readStoryRead_be16 hid hf hc) hs

theorem exec_orderList {id count : Nat} (hid : id ≤ 65535) (hc : count ≤ 255) {s : State} (hs : Ready s) :
    exec (.orderList (be16 id ++ [u8 count])) s = .next (conclude 0x20 (cmdOrderList id count s)) :=
  exec_command rfl (by simp [be16, maxArgs]) rfl (readIdByte_be16 Command.orderList hid hc) hs

@[simp] theorem conclude_refuse (code : Byte) (status : Status) (s : State) :
    conclude code (refuse status s) = s.respond status code .empty := rfl

@[simp] theorem conclude_okay (code : Byte) (payload : Payload) (s : State) :
    conclude code (okay payload s) = s.respond .ok code payload := rfl

/-! ## The statement -/

/-- Settles O18: each row is its command taken and concluded, and the command's answer is read off the case it is in:
no such story, a first index past the end, the records of the range, or the part of the running order asked for. -/
theorem storeReadsAnswerAndChangeNothing : Obligations.StoreReadsAnswerAndChangeNothing := by
  intro id first count s hid hf hc hs
  rw [exec_storyInfo hid hs, exec_storyRead hid hf hc hs, exec_orderList hid hc hs]
  refine ⟨fun hgone => ⟨?info_gone, ?read_gone, fun hne => ?order_gone⟩, fun st hst => ?info,
    fun st hst hlt => ?read_past_end, fun st hst hle => ?read, fun before after hsplit hbefore => ?order⟩
  case info_gone => rw [cmdStoryInfo_absent hgone, conclude_refuse]
  case read_gone => rw [cmdStoryRead_absent hgone, conclude_refuse]
  case order_gone => rw [cmdOrderList_absent hne hgone, conclude_refuse]
  case info =>
    refine ⟨st.report (s.position id), ?_, ?_, ?_, ?_⟩
    · rw [cmdStoryInfo_live hst, conclude_okay]
    · simp [Story.report, Story.n, State.story?_id hst]
    · exact Nat.le_add_left 1 _
    · exact State.stories_position hst
  case read_past_end => rw [cmdStoryRead_past_end hst hlt, conclude_refuse]
  case read =>
    have hlen := st.length_recsFrom first (clampNat 1 8 count)
    refine ⟨st.recsFrom first (clampNat 1 8 count), ?_, ?_, fun i hi => ?_⟩
    · rw [cmdStoryRead_live hst hle, conclude_okay, Story.n]
    · rw [hlen, clampNat, Story.n, Nat.sub_add_comm hle]
    · rw [st.recsFrom_getElem? first (by omega), Story.recAt]
      refine ⟨fun h0 => if_pos h0, fun l h1 hl => ?_⟩
      rw [if_neg (by omega), hl, Option.map_some]
  case order =>
    rcases hbefore with ⟨rfl, rfl⟩ | ⟨hne, pre, x, rfl, hx, hpre⟩
    · rw [cmdOrderList_from_start, conclude_okay, hsplit, List.nil_append, orderPayload]
    · rw [cmdOrderList_after hne hx hpre hsplit, conclude_okay, orderPayload]

end Sys2Proof.Machine
end

section
/-! PROOF. CHANNEL RUN (R46): how a channel argument is dispatched, what a change of a channel followed by a recompute of T
writes, and what the command does in each channel state. -/

namespace Sys2Proof.Machine

/-! ## The channel argument -/

theorem toChannel_eq_none {n : Nat} (h : 2 ≤ n) : toChannel n = none := by
  match n, h with
  | _ + 2, _ => rfl

theorem onChannel_none {n : Nat} (h : 2 ≤ n) (f : ChannelId → State → State × Taken) (s : State) :
    onChannel n f s = refuse .argument s := by
  simp [onChannel, toChannel_eq_none h]

theorem onChannel_some {n : Nat} {c : ChannelId} (h : toChannel n = some c) (f : ChannelId → State → State × Taken)
    (s : State) : onChannel n f s = f c s := by
  simp [onChannel, h]

/-! ## A channel changed and its T recomputed -/

/-- The speed law does not read T, so the T it gives is the same before and after a recompute (R52, R69). -/
@[simp] theorem targetFor_recompute (c : ChannelId) (s : State) : targetFor (recompute c s) c = targetFor s c := by
  cases c <;> rfl

@[simp] theorem targetFor_respond (s : State) (st : Status) (e : Byte) (p : Payload) (c : ChannelId) :
    targetFor (s.respond st e p) c = targetFor s c :=
  targetFor_congr (State.respond_channel s st e p c) (State.respond_arbiter s st e p c) rfl

/-- Changing a channel, recomputing its T and answering touches the channel records and the link alone. -/
theorem respond_recompute_modChannel_frame {s t : State} {c : ChannelId} {f : Channel → Channel} {st : Status} {e : Byte}
    {p : Payload} (h : t = (recompute c (s.modChannel c f)).respond st e p) :
    t = { s with link := t.link, channelA := t.channelA, channelB := t.channelB } := by
  subst h
  cases c <;> rfl

@[simp] theorem recompute_link (c : ChannelId) (s : State) : (recompute c s).link = s.link :=
  State.modChannel_link s c _

/-! ## What CHANNEL RUN does -/

/-- The write of CHANNEL RUN to the record of a PARKED channel, before T is recomputed. -/
def Channel.run (ch : Channel) : Channel := { ch with state := .live, paused := false }

theorem runChannel_unloaded {c : ChannelId} {s : State} (h : (s.channel c).state = .unloaded) :
    runChannel c s = refuse .state s := by
  simp [runChannel, h]

theorem runChannel_live {c : ChannelId} {s : State} (h : (s.channel c).state = .live) :
    runChannel c s = okay (.channelState .live) s := by
  simp [runChannel, h]

theorem runChannel_parked {c : ChannelId} {s : State} (h : (s.channel c).state = .parked) :
    runChannel c s = okay (.channelState .live) (recompute c (s.modChannel c Channel.run)) := by
  simp only [runChannel, h]
  rfl

theorem exec_channelRun {ch : Nat} (hch : ch ≤ 255) {s : State} (hs : Ready s) :
    exec (.channelRun [u8 ch]) s = .next (conclude 0x31 (onChannel ch runChannel s)) :=
  exec_command rfl (by simp [maxArgs]) rfl (readByte_u8 Command.channelRun hch) hs

/-! ## The statement -/

/-- Settles O26: the row is the command taken on the channel it names, and the command's answer is read off the channel's
state; T of a PARKED channel is the one the speed law gives in the state after the command, because the law does not
read T. -/
theorem channelRunStartsMotion : Obligations.ChannelRunStartsMotion := by
  intro ch s hch hs
  rw [exec_channelRun hch hs]
  refine ⟨fun hno => ?no_channel, fun c hc hst => ?unloaded, fun c hc hst => ?live, fun c hc hst => ?parked⟩
  case no_channel => rw [onChannel_none hno, conclude_refuse]
  case unloaded => rw [onChannel_some hc, runChannel_unloaded hst, conclude_refuse]
  case live => rw [onChannel_some hc, runChannel_live hst, conclude_okay]
  case parked =>
    rw [onChannel_some hc, runChannel_parked hst, conclude_okay]
    refine ⟨_, rfl, ?link, ?channel, ?speed, fun d hd => ?other, ?frame⟩
    case link => simp
    case channel => simp [Channel.run]
    case speed => simp [Channel.run]
    case other => rw [State.respond_channel, recompute_other hd, State.modChannel_other s hd]
    case frame => exact respond_recompute_modChannel_frame rfl

end Sys2Proof.Machine
end

section
/-! PROOF. The ramp (R71 to R73): what one step expiry makes of S on either side of 0, where some step expiries lead
under one target, and the course of a reversal. The two sides are mirror images, so the course
of a reversal is proved for one side and carried over by the sign. -/

namespace Sys2Proof.Machine

/-! ## One step expiry -/

theorem ramp_self (t : Tuning) (S : Int) : ramp t S S = S := if_pos rfl

/-- R72 at or above 0: a growing step. -/
theorem ramp_grow_of_nonneg (t : Tuning) {S T : Int} (hS : 0 ≤ S) (hST : S < T) :
    ramp t S T = min T (S + t.rampUp) := by
  have hgrow : S = 0 ∨ (((0 < S ∧ 0 < T) ∨ (S < 0 ∧ T < 0)) ∧ S.natAbs < T.natAbs) := by omega
  rw [ramp, if_neg (Int.ne_of_lt hST), if_pos hgrow, if_pos (Int.lt_of_le_of_lt hS hST)]
  omega

/-- R72 at or below 0. -/
theorem ramp_grow_of_nonpos (t : Tuning) {S T : Int} (hS : S ≤ 0) (hTS : T < S) :
    ramp t S T = max T (S - t.rampUp) := by
  have hgrow : S = 0 ∨ (((0 < S ∧ 0 < T) ∨ (S < 0 ∧ T < 0)) ∧ S.natAbs < T.natAbs) := by omega
  rw [ramp, if_neg (Int.ne_of_gt hTS), if_pos hgrow,
    if_neg (Int.not_lt_of_ge (Int.le_of_lt (Int.lt_of_lt_of_le hTS hS)))]
  omega

/-- R73 above 0: a shrinking step, which stops at the nearer of T and 0. -/
theorem ramp_shrink_of_pos (t : Tuning) {S T : Int} (hS : 0 < S) (hTS : T < S) :
    ramp t S T = max (max 0 T) (S - t.rampDown) := by
  have hshrink : ¬(S = 0 ∨ (((0 < S ∧ 0 < T) ∨ (S < 0 ∧ T < 0)) ∧ S.natAbs < T.natAbs)) := by omega
  rw [ramp, if_neg (Int.ne_of_gt hTS), if_neg hshrink, if_pos hS]
  omega

/-- R73 below 0. -/
theorem ramp_shrink_of_neg (t : Tuning) {S T : Int} (hS : S < 0) (hST : S < T) :
    ramp t S T = min (min 0 T) (S + t.rampDown) := by
  have hshrink : ¬(S = 0 ∨ (((0 < S ∧ 0 < T) ∨ (S < 0 ∧ T < 0)) ∧ S.natAbs < T.natAbs)) := by omega
  rw [ramp, if_neg (Int.ne_of_lt hST), if_neg hshrink, if_neg (Int.not_lt_of_ge (Int.le_of_lt hS))]
  omega

/-- The ramp treats the two directions alike. -/
theorem ramp_neg (t : Tuning) (S T : Int) : ramp t (-S) (-T) = -ramp t S T := by
  rcases Int.lt_trichotomy S T with hST | rfl | hTS
  · rcases Int.lt_or_le S 0 with hS | hS
    · rw [ramp_shrink_of_neg t hS hST, ramp_shrink_of_pos t (by omega) (by omega)]
      omega
    · rw [ramp_grow_of_nonneg t hS hST, ramp_grow_of_nonpos t (by omega) (by omega)]
      omega
  · rw [ramp_self, ramp_self]
  · rcases Int.lt_or_le 0 S with hS | hS
    · rw [ramp_shrink_of_pos t hS hTS, ramp_shrink_of_neg t (by omega) (by omega)]
      omega
    · rw [ramp_grow_of_nonpos t hS hTS, ramp_grow_of_nonneg t (by omega) (by omega)]
      omega

/-! ## Some step expiries under one target -/

theorem rampAfter_add (t : Tuning) (T : Int) (m n : Nat) (S : Int) :
    rampAfter t T (m + n) S = rampAfter t T n (rampAfter t T m S) := by
  induction m generalizing S with
  | zero => rw [Nat.zero_add, rampAfter]
  | succ m ih => rw [Nat.succ_add, rampAfter, rampAfter, ih]

/-- The last step expiry split off. -/
theorem rampAfter_succ (t : Tuning) (T : Int) (n : Nat) (S : Int) :
    rampAfter t T (n + 1) S = ramp t (rampAfter t T n S) T := by
  rw [rampAfter_add, rampAfter, rampAfter]

theorem rampAfter_neg (t : Tuning) (T : Int) (n : Nat) (S : Int) :
    rampAfter t (-T) n (-S) = -rampAfter t T n S := by
  induction n with
  | zero => rfl
  | succ n ih => rw [rampAfter_succ, rampAfter_succ, ih, ramp_neg]

/-- From 0 toward a T that is not negative, S grows by A at each step expiry and stops at T. -/
theorem rampAfter_zero_of_nonneg (t : Tuning) {T : Int} (hT : 0 ≤ T) (n : Nat) :
    rampAfter t T n 0 = min T (n * t.rampUp : Nat) := by
  induction n with
  | zero =>
    rw [rampAfter]
    omega
  | succ n ih =>
    rw [rampAfter_succ, ih, Nat.succ_mul]
    rcases Int.lt_or_le (n * t.rampUp : Nat) T with hshort | hreached
    · rw [ramp_grow_of_nonneg t (by omega) (by omega)]
      omega
    · rw [show min T ((n * t.rampUp : Nat) : Int) = T by omega, ramp_self]
      omega

/-- R72 from 0: T is reached as soon as that many growing steps cover it, and it is kept. -/
theorem rampAfter_zero_eq_target (t : Tuning) {T : Int} {n : Nat} (hn : T.natAbs ≤ n * t.rampUp) :
    rampAfter t T n 0 = T := by
  rcases Int.le_total 0 T with hT | hT
  · rw [rampAfter_zero_of_nonneg t hT]
    omega
  · have hmirror := rampAfter_zero_of_nonneg t (Int.neg_nonneg_of_nonpos hT) n
    rw [← Int.neg_zero, rampAfter_neg] at hmirror
    omega

/-- A positive S under a negative T shrinks by B at each step expiry, as long as the one before it left S positive. -/
theorem rampAfter_shrink_of_pos (t : Tuning) {S T : Int} (hS : 0 < S) (hT : T < 0) {n : Nat}
    (hn : n * t.rampDown < S.natAbs + t.rampDown) : rampAfter t T n S = (S.natAbs - n * t.rampDown : Nat) := by
  induction n with
  | zero =>
    rw [rampAfter]
    omega
  | succ n ih =>
    rw [Nat.succ_mul] at hn ⊢
    rw [rampAfter_succ, ih (by omega), ramp_shrink_of_pos t (by omega) (by omega)]
    omega

/-! ## A reversal -/

theorem opposite_sides_of_mul_neg {S T : Int} (h : S * T < 0) : (0 < S ∧ T < 0) ∨ (S < 0 ∧ 0 < T) := by
  rcases Int.lt_trichotomy S 0 with hS | rfl | hS
  · exact .inr ⟨hS, Int.not_le.mp fun hT =>
      Int.not_le.mpr h (Int.mul_nonneg_of_nonpos_of_nonpos (Int.le_of_lt hS) hT)⟩
  · rw [Int.zero_mul] at h
    exact absurd h (Int.lt_irrefl 0)
  · exact .inl ⟨hS, Int.not_le.mp fun hT => Int.not_le.mpr h (Int.mul_nonneg (Int.le_of_lt hS) hT)⟩

/-- R73 in a reversal: S keeps its sign and loses B at each step expiry, as long as the one before it left S nonzero. -/
theorem rampAfter_reversal (t : Tuning) {S T : Int} (hST : S * T < 0) {n : Nat}
    (hn : n * t.rampDown < S.natAbs + t.rampDown) :
    rampAfter t T n S = S.sign * (S.natAbs - n * t.rampDown : Nat) := by
  rcases opposite_sides_of_mul_neg hST with ⟨hS, hT⟩ | ⟨hS, hT⟩
  · rw [rampAfter_shrink_of_pos t hS hT hn, Int.sign_eq_one_of_pos hS, Int.one_mul]
  · have hmirror := rampAfter_shrink_of_pos t (Int.neg_pos_of_neg hS) (Int.neg_neg_of_pos hT)
      (by rwa [Int.natAbs_neg])
    rw [rampAfter_neg, Int.natAbs_neg] at hmirror
    rw [Int.sign_eq_neg_one_of_neg hS]
    omega

/-- The steps of size b that a distance of n takes cover it. -/
theorem le_ceil_div_mul {b : Nat} (hb : 1 ≤ b) (n : Nat) : n ≤ (n + b - 1) / b * b := by
  have hlt := Nat.lt_div_mul_add (a := n + b - 1) hb
  omega

/-- And fewer than one step is left over. -/
theorem mul_lt_add_of_le_ceil_div {b : Nat} (hb : 1 ≤ b) {n k : Nat} (hk : k ≤ (n + b - 1) / b) :
    k * b < n + b := by
  have hle := (Nat.le_div_iff_mul_le hb).mp hk
  omega

/-- The shrinking steps of a reversal end on 0. -/
theorem rampAfter_reversal_eq_zero (t : Tuning) {S T : Int} (hB : 1 ≤ t.rampDown) (hST : S * T < 0) :
    rampAfter t T ((S.natAbs + t.rampDown - 1) / t.rampDown) S = 0 := by
  rw [rampAfter_reversal t hST (mul_lt_add_of_le_ceil_div hB (Nat.le_refl _)),
    Nat.sub_eq_zero_of_le (le_ceil_div_mul hB S.natAbs), Int.natCast_zero, Int.mul_zero]

/-! ## The statement -/

/-- Settles O42: one step is read off the side of 0 that S is on; a reversal shrinks to 0 with the sign of S kept and
then grows to T. -/
theorem theRampGrowsAndShrinks : Obligations.TheRampGrowsAndShrinks := by
  intro t S T hA hB
  refine ⟨?equal, ramp_grow_of_nonneg t, ramp_grow_of_nonpos t, ramp_shrink_of_pos t, ramp_shrink_of_neg t,
    fun hST n hn => ?shrinking, rampAfter_reversal_eq_zero t hB, fun hST => ?reversed⟩
  case equal =>
    rintro rfl
    exact ramp_self t S
  case shrinking =>
    have hS : S ≠ 0 := by
      have hsides := opposite_sides_of_mul_neg hST
      omega
    have hcourse := rampAfter_reversal t hST (mul_lt_add_of_le_ceil_div hB hn)
    simp only [hcourse]
    constructor
    · rw [← Int.mul_assoc, Int.mul_sign_self]
      exact Int.mul_nonneg (Int.natCast_nonneg _) (Int.natCast_nonneg _)
    · rw [Int.natAbs_mul, Int.natAbs_sign_of_ne_zero hS, Nat.one_mul, Int.natAbs_natCast]
  case reversed =>
    rw [rampAfter_add, rampAfter_reversal_eq_zero t hB hST]
    exact rampAfter_zero_eq_target t (le_ceil_div_mul hA T.natAbs)

end Sys2Proof.Machine
end

section
/-! PROOF. The speed law (R67 to R69): the size of T as a function of the size of D, the law on either side of 0, and
the T of a channel as its condition forces it. -/

namespace Sys2Proof.Machine

/-! ## The size of T -/

/-- The size that the curve gives a deflection of size n under a limit (R68). -/
def Tuning.sizeAt (t : Tuning) (vlim n : Nat) : Nat :=
  match t.curve with
  | .linear => vlim * (n - t.dz) / (127 - t.dz)
  | .square => vlim * (n - t.dz) * (n - t.dz) / ((127 - t.dz) * (127 - t.dz))

theorem Tuning.sizeAt_linear {t : Tuning} (h : t.curve = .linear) (vlim n : Nat) :
    t.sizeAt vlim n = vlim * (n - t.dz) / (127 - t.dz) := by
  rw [Tuning.sizeAt, h]

theorem Tuning.sizeAt_square {t : Tuning} (h : t.curve = .square) (vlim n : Nat) :
    t.sizeAt vlim n = vlim * (n - t.dz) * (n - t.dz) / ((127 - t.dz) * (127 - t.dz)) := by
  rw [Tuning.sizeAt, h]

theorem Tuning.sizeAt_dead_zone {t : Tuning} {n : Nat} (h : n ≤ t.dz) (vlim : Nat) : t.sizeAt vlim n = 0 := by
  cases hc : t.curve with
  | linear => rw [Tuning.sizeAt_linear hc, Nat.sub_eq_zero_of_le h, Nat.mul_zero, Nat.zero_div]
  | square => rw [Tuning.sizeAt_square hc, Nat.sub_eq_zero_of_le h, Nat.mul_zero, Nat.zero_div]

theorem Tuning.sizeAt_full {t : Tuning} (h : t.dz < 127) (vlim : Nat) : t.sizeAt vlim 127 = vlim := by
  have hspan : 0 < 127 - t.dz := Nat.sub_pos_of_lt h
  cases hc : t.curve with
  | linear => rw [Tuning.sizeAt_linear hc, Nat.mul_div_cancel _ hspan]
  | square => rw [Tuning.sizeAt_square hc, Nat.mul_assoc, Nat.mul_div_cancel _ (Nat.mul_pos hspan hspan)]

theorem Tuning.sizeAt_mono (t : Tuning) (vlim : Nat) {m n : Nat} (h : m ≤ n) : t.sizeAt vlim m ≤ t.sizeAt vlim n := by
  have hsub : m - t.dz ≤ n - t.dz := Nat.sub_le_sub_right h _
  cases hc : t.curve with
  | linear =>
    rw [Tuning.sizeAt_linear hc, Tuning.sizeAt_linear hc]
    exact Nat.div_le_div_right (Nat.mul_le_mul_left _ hsub)
  | square =>
    rw [Tuning.sizeAt_square hc, Tuning.sizeAt_square hc]
    exact Nat.div_le_div_right (Nat.mul_le_mul (Nat.mul_le_mul_left _ hsub) hsub)

/-! ## The law on either side of 0 -/

/-- The law takes the limit of D's direction and gives the size D's sign. -/
theorem speedLaw_eq_sizeAt (t : Tuning) (d : Int) :
    speedLaw t d = if d < 0 then -(t.sizeAt (if 0 < d then t.vmax else t.vrev) d.natAbs : Int)
      else t.sizeAt (if 0 < d then t.vmax else t.vrev) d.natAbs := by
  cases hc : t.curve with
  | linear => simp only [speedLaw, hc, Tuning.sizeAt_linear hc, Int.natCast_ediv, Int.natCast_mul]
  | square => simp only [speedLaw, hc, Tuning.sizeAt_square hc, Int.natCast_ediv, Int.natCast_mul]

theorem speedLaw_dead_zone {t : Tuning} {d : Int} (h : d.natAbs ≤ t.dz) : speedLaw t d = 0 := by
  rw [speedLaw_eq_sizeAt, Tuning.sizeAt_dead_zone h, Int.natCast_zero, Int.neg_zero, ite_self]

theorem speedLaw_of_pos (t : Tuning) {d : Int} (hd : 0 < d) : speedLaw t d = t.sizeAt t.vmax d.natAbs := by
  rw [speedLaw_eq_sizeAt, if_neg (Int.not_lt_of_ge (Int.le_of_lt hd)), if_pos hd]

theorem speedLaw_of_neg (t : Tuning) {d : Int} (hd : d < 0) :
    speedLaw t d = -(t.sizeAt t.vrev d.natAbs : Int) := by
  rw [speedLaw_eq_sizeAt, if_pos hd, if_neg (Int.not_lt_of_ge (Int.le_of_lt hd))]

theorem natAbs_speedLaw (t : Tuning) (d : Int) :
    (speedLaw t d).natAbs = t.sizeAt (if 0 < d then t.vmax else t.vrev) d.natAbs := by
  rw [speedLaw_eq_sizeAt]
  by_cases hd : d < 0
  · rw [if_pos hd, Int.natAbs_neg, Int.natAbs_natCast]
  · rw [if_neg hd, Int.natAbs_natCast]

/-- At the centre D lies inside every dead zone. -/
theorem speedLaw_zero (t : Tuning) : speedLaw t 0 = 0 := speedLaw_dead_zone (Nat.zero_le _)

theorem speedLaw_nonneg (t : Tuning) {d : Int} (hd : 0 ≤ d) : 0 ≤ speedLaw t d := by
  rw [speedLaw_eq_sizeAt, if_neg (Int.not_lt_of_ge hd)]
  exact Int.natCast_nonneg _

theorem speedLaw_nonpos (t : Tuning) {d : Int} (hd : d ≤ 0) : speedLaw t d ≤ 0 := by
  rcases Int.le_iff_eq_or_lt.mp hd with rfl | hneg
  · exact Int.le_of_eq (speedLaw_zero t)
  · rw [speedLaw_of_neg t hneg]
    exact Int.neg_nonpos_of_nonneg (Int.natCast_nonneg _)

/-- T never points against D. -/
theorem mul_speedLaw_nonneg (t : Tuning) (d : Int) : 0 ≤ d * speedLaw t d := by
  rcases Int.le_total 0 d with hd | hd
  · exact Int.mul_nonneg hd (speedLaw_nonneg t hd)
  · exact Int.mul_nonneg_of_nonpos_of_nonpos hd (speedLaw_nonpos t hd)

/-- On either side of 0 by the size alone, and across 0 by the sign. -/
theorem speedLaw_mono (t : Tuning) {d e : Int} (h : d ≤ e) : speedLaw t d ≤ speedLaw t e := by
  rcases Int.lt_or_le 0 d with hd | hd
  · have hsize := t.sizeAt_mono t.vmax (by omega : d.natAbs ≤ e.natAbs)
    rw [speedLaw_of_pos t hd, speedLaw_of_pos t (Int.lt_of_lt_of_le hd h)]
    exact Int.ofNat_le.mpr hsize
  · rcases Int.lt_or_le e 0 with he | he
    · have hsize := t.sizeAt_mono t.vrev (by omega : e.natAbs ≤ d.natAbs)
      rw [speedLaw_of_neg t he, speedLaw_of_neg t (Int.lt_of_le_of_lt h he)]
      exact Int.neg_le_neg (Int.ofNat_le.mpr hsize)
    · exact Int.le_trans (speedLaw_nonpos t hd) (speedLaw_nonneg t he)

theorem speedLaw_full_forward {t : Tuning} (h : t.dz < 127) : speedLaw t 127 = t.vmax := by
  rw [speedLaw_of_pos t (by decide), show (127 : Int).natAbs = 127 from rfl, Tuning.sizeAt_full h]

theorem speedLaw_full_backward {t : Tuning} (h : t.dz < 127) : speedLaw t (-127) = -(t.vrev : Int) := by
  rw [speedLaw_of_neg t (by decide), show (-127 : Int).natAbs = 127 from rfl, Tuning.sizeAt_full h]

/-! ## The T of a channel -/

/-- R69: nothing moves a channel that is not LIVE, that nobody owns or that is paused. -/
theorem targetFor_at_rest {s : State} {c : ChannelId}
    (h : (s.channel c).state ≠ .live ∨ (s.arbiter c).owner = none ∨ (s.channel c).paused = true) :
    targetFor s c = 0 := by
  cases howner : (s.arbiter c).owner with
  | none => simp only [targetFor, howner]
  | some p =>
    rcases h with hstate | hnone | hpaused
    · simp only [targetFor, howner, if_pos hstate]
    · cases howner.symm.trans hnone
    · simp only [targetFor, howner, if_pos hpaused, ite_self]

/-- R69: END and START force to 0 a T that would move the read point past them. -/
theorem targetFor_in_motion {s : State} {c : ChannelId} {p : Fin 4} {d : Int} (hlive : (s.channel c).state = .live)
    (howner : (s.arbiter c).owner = some p) (hrun : (s.channel c).paused = false) (hheld : (s.station p).held = some d) :
    targetFor s c =
      if (s.channel c).endFlag = true ∧ 0 < speedLaw (s.channel c).tuning d then 0
      else if (s.channel c).startFlag = true ∧ speedLaw (s.channel c).tuning d < 0 then 0
      else speedLaw (s.channel c).tuning d := by
  simp only [targetFor, howner, hlive, hrun, hheld, ne_eq, not_true_eq_false, Bool.false_eq_true, if_false,
    Option.getD_some]

/-! ## The statement -/

/-- Settles O43: the size of T is the curve's, its sign is D's, and the bounds are the law's values at full deflection,
because the law never decreases; the T of a channel is read off its condition. -/
theorem theSpeedLawGivesTheTarget : Obligations.TheSpeedLawGivesTheTarget := by
  refine ⟨fun t d htun hlo hhi => ?law, fun s c => ⟨targetFor_at_rest, fun p d hlive howner hrun hheld => ?target⟩⟩
  case law =>
    obtain ⟨-, -, -, -, hdz, -⟩ := htun
    have hspan : t.dz < 127 := by omega
    refine ⟨speedLaw_dead_zone, fun hc _ => ⟨?linear, mul_speedLaw_nonneg t d⟩,
      fun hc _ => ⟨?square, mul_speedLaw_nonneg t d⟩, ?lower, ?upper, speedLaw_full_forward hspan,
      speedLaw_full_backward hspan, fun e hde _ => speedLaw_mono t hde⟩
    case linear => rw [natAbs_speedLaw, Tuning.sizeAt_linear hc]
    case square => rw [natAbs_speedLaw, Tuning.sizeAt_square hc]
    case lower => exact speedLaw_full_backward hspan ▸ speedLaw_mono t hlo
    case upper => exact speedLaw_full_forward hspan ▸ speedLaw_mono t hhi
  case target =>
    rw [targetFor_in_motion hlive howner hrun hheld]
    constructor
    · rintro (hend | hstart)
      · exact if_pos hend
      · rw [if_pos hstart, ite_self]
    · intro hfree
      obtain ⟨hend, hstart⟩ := not_or.mp hfree
      rw [if_neg hend, if_neg hstart]

end Sys2Proof.Machine
end

section
/-! PROOF. The check byte of a station or head frame (R124): what one addition answers, the sum read from its end, and
the sum of zeros. -/

namespace Sys2Proof.Machine

/-! ## One addition -/

/-- Two bytes add up to at most 510, so the 1 of a carry never carries again. -/
theorem toNat_endAroundAdd (a b : Byte) : (endAroundAdd a b).toNat
    = if a.toNat + b.toNat ≤ 255 then a.toNat + b.toNat else (a.toNat + b.toNat) % 256 + 1 := by
  have ha : a.toNat < 256 := a.isLt
  have hb : b.toNat < 256 := b.isLt
  by_cases hcarry : a.toNat + b.toNat < 256
  · rw [endAroundAdd, if_pos hcarry, if_pos (Nat.le_of_lt_succ hcarry), u8, BitVec.toNat_ofNat]
    exact Nat.mod_eq_of_lt hcarry
  · rw [endAroundAdd, if_neg hcarry, if_neg (fun h => hcarry (Nat.lt_succ_of_le h)), u8, BitVec.toNat_ofNat]
    omega

/-! ## The sum of a frame -/

theorem endAroundSum_append_singleton (bs : List Byte) (check : Byte) :
    endAroundSum (bs ++ [check]) = endAroundAdd (endAroundSum bs) check := by
  rw [endAroundSum, List.foldl_append, List.foldl_cons, List.foldl_nil, endAroundSum]

theorem checkPasses_iff (bs : List Byte) (check : Byte) :
    checkPasses bs check = true ↔ endAroundAdd (endAroundSum bs) check = 0xFF#8 := by
  rw [checkPasses, beq_iff_eq, endAroundSum_append_singleton]

theorem endAroundSum_replicate_zero (n : Nat) : endAroundSum (List.replicate n 0) = 0 := by
  induction n with
  | zero => rfl
  | succ n ih =>
    rw [List.replicate_succ', endAroundSum_append_singleton, ih]
    rfl

/-- The total of an all-zero frame is 0, not 0xFF. -/
theorem checkPasses_replicate_zero (n : Nat) : checkPasses (List.replicate n 0) 0 = false := by
  rw [← Bool.not_eq_true, checkPasses_iff, endAroundSum_replicate_zero]
  decide

/-! ## The statement -/

/-- Settles O53: the check reads the sum of length byte and body, to which it adds the check byte; the byte that the
sender forms is what that sum lacks to 0xFF, and zeros add up to 0. -/
theorem theCheckByteWrapsItsCarry : Obligations.TheCheckByteWrapsItsCarry := by
  refine ⟨toNat_endAroundAdd, checkPasses_iff, fun bs => ⟨rfl, checkPasses_checkByte bs⟩, checkPasses_replicate_zero,
    fun bs => ?layout, ?manual⟩
  case layout => rfl
  case manual => decide

end Sys2Proof.Machine
end

section
/-! PROOF. The ranking of the hand-back (R145): the four tests as one comparison of four numbers, the order that this
makes of the stations, and the station that `successor` chooses by it. -/

namespace Sys2Proof.Machine

section Ranking

variable {s : State} {loser : Option (Fin 4)} {p q r : Fin 4}

/-! ## The ranking -/

/-- The first test (R145): 1 for the last-loser, who ranks after the others. -/
def loserMark (loser : Option (Fin 4)) (p : Fin 4) : Nat := (decide (loser = some p)).toNat

/-- The second test (R145): 1 for an OPERATOR, who ranks before the others. -/
def operatorMark (s : State) (p : Fin 4) : Nat := (decide ((s.station p).role = .operator)).toNat

theorem loserMark_of_eq (h : loser = some p) : loserMark loser p = 1 := by rw [loserMark, decide_eq_true h]; rfl

theorem loserMark_of_ne (h : loser ≠ some p) : loserMark loser p = 0 := by rw [loserMark, decide_eq_false h]; rfl

theorem operatorMark_of_eq (h : (s.station p).role = .operator) : operatorMark s p = 1 := by
  rw [operatorMark, decide_eq_true h]
  rfl

theorem operatorMark_of_ne (h : (s.station p).role ≠ .operator) : operatorMark s p = 0 := by
  rw [operatorMark, decide_eq_false h]
  rfl

/-- A test of a mark decides for the station without it, and passes stations that are alike on to the next test. -/
theorem ite_mark_eq_true_iff {P : Prop} [Decidable P] {a b : Bool} (hP : P ↔ a ≠ b) (rest : Bool) :
    (if P then b else rest) = true ↔ a.toNat < b.toNat ∨ a.toNat = b.toNat ∧ rest = true := by
  by_cases hab : a = b
  · rw [if_neg (fun h => hP.mp h hab), hab]
    simp only [Nat.lt_irrefl, true_and, false_or]
  · rw [if_pos (hP.mpr hab), Bool.eq_not_of_ne hab]
    cases b <;> decide +revert

theorem ite_rank_eq_true_iff (m n : Nat) (rest : Bool) :
    (if m ≠ n then decide (m < n) else rest) = true ↔ m < n ∨ m = n ∧ rest = true := by
  by_cases hmn : m = n
  · rw [if_neg (not_not_intro hmn), hmn]
    simp only [Nat.lt_irrefl, true_and, false_or]
  · rw [if_pos hmn, decide_eq_true_iff]
    simp only [hmn, false_and, or_false]

/-- The first of the four numbers that differs decides. -/
theorem ranksBefore_iff : ranksBefore s loser p q = true ↔
    loserMark loser p < loserMark loser q ∨ loserMark loser p = loserMark loser q ∧
      (operatorMark s q < operatorMark s p ∨ operatorMark s q = operatorMark s p ∧
        ((s.station p).rank < (s.station q).rank ∨ (s.station p).rank = (s.station q).rank ∧ p.val < q.val)) := by
  rw [ranksBefore, ite_mark_eq_true_iff Iff.rfl, ite_mark_eq_true_iff ne_comm, ite_rank_eq_true_iff,
    decide_eq_true_iff, Fin.lt_def, loserMark, loserMark, operatorMark, operatorMark]

theorem ranksBefore_asymm (h : ranksBefore s loser p q = true) : ¬ ranksBefore s loser q p = true := by
  rw [ranksBefore_iff] at h ⊢
  omega

theorem ranksBefore_irrefl : ¬ ranksBefore s loser p p = true := fun h => ranksBefore_asymm h h

/-- Of three stations, one that ranks before another also ranks before the third, or the third before the other. -/
theorem ranksBefore_cotrans (h : ranksBefore s loser p r = true) (q : Fin 4) :
    ranksBefore s loser p q = true ∨ ranksBefore s loser q r = true := by
  simp only [ranksBefore_iff] at h ⊢
  omega

/-- The port numbers differ, so the tests separate any two stations. -/
theorem ranksBefore_total (h : p ≠ q) : ranksBefore s loser p q = true ∨ ranksBefore s loser q p = true := by
  have hport : p.val ≠ q.val := fun hval => h (Fin.ext hval)
  simp only [ranksBefore_iff]
  omega

/-- The tests in their order, as the statement names them. -/
theorem tests_of_ranksBefore (h : ranksBefore s loser q p = true) :
    if loser = some p then True
    else if loser = some q then False
    else if (s.station q).role = .operator ∧ (s.station p).role ≠ .operator then True
    else if (s.station q).role ≠ .operator ∧ (s.station p).role = .operator then False
    else if (s.station q).rank ≠ (s.station p).rank then (s.station q).rank < (s.station p).rank
    else q.val < p.val := by
  rw [ranksBefore_iff] at h
  split
  case isTrue => trivial
  case isFalse hp =>
    rw [loserMark_of_ne hp] at h
    split
    case isTrue hq =>
      rw [loserMark_of_eq hq] at h
      omega
    case isFalse hq =>
      rw [loserMark_of_ne hq] at h
      by_cases hop : (s.station p).role = .operator <;> by_cases hoq : (s.station q).role = .operator
      · rw [if_neg (fun hsep => hsep.2 hop), if_neg (fun hsep => hsep.1 hoq)]
        rw [operatorMark_of_eq hop, operatorMark_of_eq hoq] at h
        split <;> omega
      · rw [operatorMark_of_eq hop, operatorMark_of_ne hoq] at h
        omega
      · rw [if_pos ⟨hoq, hop⟩]
        trivial
      · rw [if_neg (fun hsep => hoq hsep.1), if_neg (fun hsep => hop hsep.2)]
        rw [operatorMark_of_ne hop, operatorMark_of_ne hoq] at h
        split <;> omega

/-! ## The choice -/

theorem successor_cons_of_none {ws : List (Fin 4)} (h : successor s loser ws = none) :
    successor s loser (p :: ws) = some p := by
  rw [successor, h]

theorem successor_cons_of_some {ws : List (Fin 4)} (h : successor s loser ws = some q) :
    successor s loser (p :: ws) = some (if ranksBefore s loser q p then q else p) := by
  rw [successor, h]

theorem successor_eq_none_iff {ws : List (Fin 4)} : successor s loser ws = none ↔ ws = [] := by
  cases ws with
  | nil => simp only [successor]
  | cons p ws =>
    cases h : successor s loser ws with
    | none => simp only [successor_cons_of_none h, reduceCtorEq]
    | some q => simp only [successor_cons_of_some h, reduceCtorEq]

/-- The station chosen is in the list, and none in the list ranks before it. -/
theorem first_of_successor_eq_some {ws : List (Fin 4)} (h : successor s loser ws = some q) :
    q ∈ ws ∧ ∀ p ∈ ws, ¬ ranksBefore s loser p q = true := by
  induction ws generalizing q with
  | nil => cases h
  | cons x ws ih =>
    cases hrest : successor s loser ws with
    | none =>
      rw [successor_cons_of_none hrest] at h
      cases h
      rw [successor_eq_none_iff.mp hrest]
      exact ⟨List.mem_singleton_self x, List.forall_mem_singleton.mpr ranksBefore_irrefl⟩
    | some r =>
      obtain ⟨hr, hfirst⟩ := ih hrest
      rw [successor_cons_of_some hrest] at h
      by_cases hrx : ranksBefore s loser r x = true
      · rw [if_pos hrx] at h
        cases h
        exact ⟨List.mem_cons_of_mem x hr, List.forall_mem_cons.mpr ⟨ranksBefore_asymm hrx, hfirst⟩⟩
      · rw [if_neg hrx] at h
        cases h
        refine ⟨List.mem_cons_self, List.forall_mem_cons.mpr ⟨ranksBefore_irrefl, fun p hp hpx => ?_⟩⟩
        exact (ranksBefore_cotrans hpx r).elim (hfirst p hp) hrx

/-- One station in the list is first, so the list's members alone settle the choice. -/
theorem successor_eq_some_iff {ws : List (Fin 4)} : successor s loser ws = some q ↔
    q ∈ ws ∧ ∀ p ∈ ws, p ≠ q → ranksBefore s loser q p = true := by
  constructor
  · intro h
    obtain ⟨hq, hfirst⟩ := first_of_successor_eq_some h
    exact ⟨hq, fun p hp hpq => (ranksBefore_total hpq).resolve_left (hfirst p hp)⟩
  · rintro ⟨hq, hbefore⟩
    obtain ⟨r, hr⟩ := Option.ne_none_iff_exists'.mp (mt successor_eq_none_iff.mp (List.ne_nil_of_mem hq))
    obtain ⟨hmem, hfirst⟩ := first_of_successor_eq_some hr
    have hrq : r = q := Decidable.byContradiction fun hne => hfirst q hq (hbefore r hmem hne)
    rw [hr, hrq]

theorem successor_perm {ws ws' : List (Fin 4)} (h : ws.Perm ws') : successor s loser ws = successor s loser ws' := by
  refine Option.ext fun q => ?_
  simp only [successor_eq_some_iff, h.mem_iff]

end Ranking

/-! ## The statement -/

/-- Settles O49: the choice is the member of the list that ranks before every other one. -/
theorem theHandBackRanksTheWaitingStations : Obligations.TheHandBackRanksTheWaitingStations := by
  refine fun s loser waiting _ => ⟨successor_eq_none_iff.mpr, fun hne => ?first, fun other => successor_perm⟩
  obtain ⟨q, hq⟩ := Option.ne_none_iff_exists'.mp (mt successor_eq_none_iff.mp hne)
  obtain ⟨hmem, hbefore⟩ := successor_eq_some_iff.mp hq
  exact ⟨q, hmem, hq, fun p hp hpq => tests_of_ranksBefore (hbefore p hp hpq)⟩

end Sys2Proof.Machine
end

section
/-! PROOF. The CRC of the link and the frame check (R40, R164), and IDENTIFY (R174): what a frame that passes looks like,
the two CRC characters, and the register as a number that takes one data bit at a time. -/

namespace Sys2Proof.Machine

/-! ## Which frames pass -/

/-- A frame that passes splits, at its length byte, into its body and the CRC of it (R164). -/
theorem goodBody_eq_some_iff {len : Nat} {got : List Byte} (hlen : got.length = len + 2) (body : List Byte) :
    goodBody len got = some body ↔ got = body ++ be16 (crc16 (u8 len :: body)) ∧ body.length = len := by
  constructor
  · intro h
    simp only [goodBody, Option.ite_none_right_eq_some, Option.some.injEq] at h
    obtain ⟨hcrc, rfl⟩ := h
    exact ⟨by rw [← hcrc, List.take_append_drop], by rw [List.length_take]; omega⟩
  · rintro ⟨rfl, rfl⟩
    exact goodBody_right body

theorem goodBody_eq_none_iff {len : Nat} {got : List Byte} (hlen : got.length = len + 2) :
    goodBody len got = none ↔ ∀ body, body.length = len → got ≠ body ++ be16 (crc16 (u8 len :: body)) := by
  rw [Option.eq_none_iff_forall_ne_some]
  refine forall_congr' fun body => ?_
  rw [ne_eq, goodBody_eq_some_iff hlen body, not_and']

/-! ## The CRC characters -/

theorem u8_mod (n : Nat) : u8 (n % 256) = u8 n :=
  BitVec.eq_of_toNat_eq (by simp only [u8, BitVec.toNat_ofNat]; omega)

theorem be16_eq (n : Nat) : be16 n = [u8 (n / 256), u8 (n % 256)] := by
  rw [be16, u8_mod]

theorem crc16_le (bs : List Byte) : crc16 bs ≤ 65535 :=
  Nat.le_of_lt_succ (bs.foldl crcByte 0xFFFF#16).isLt

/-! ## The register, bit by bit -/

/-- The register of R40 as a number, taking bit `i` of the byte `b`. -/
def crcShift (b : Byte) (register i : Nat) : Nat :=
  if register / 32768 ≠ b.toNat / 2 ^ i % 2 then (2 * register % 65536) ^^^ 0x1021 else 2 * register % 65536

/-- The bit shifted out of the register differs from a data bit exactly when they differ as numbers. -/
theorem msb_bne_getLsbD_iff (reg : BitVec 16) (b : Byte) (i : Nat) :
    (reg.msb != b.getLsbD i) = true ↔ reg.toNat / 32768 ≠ b.toNat / 2 ^ i % 2 := by
  have hreg := reg.isLt
  have hbit := Nat.mod_two_eq_zero_or_one (b.toNat / 2 ^ i)
  rw [bne_iff_ne, BitVec.msb_eq_decide, BitVec.getLsbD, Nat.testBit_eq_decide_div_mod_eq, ne_eq, decide_eq_decide]
  omega

theorem toNat_shiftLeft_one (reg : BitVec 16) : (reg <<< 1).toNat = 2 * reg.toNat % 65536 := by
  rw [BitVec.toNat_shiftLeft, Nat.shiftLeft_eq, Nat.pow_one, Nat.mul_comm]

theorem crcShift_toNat (b : Byte) (reg : BitVec 16) (i : Nat) :
    crcShift b reg.toNat i = (crcBit reg (b.getLsbD i)).toNat := by
  simp only [crcShift, crcBit, ← msb_bne_getLsbD_iff]
  split
  · rw [BitVec.toNat_xor, toNat_shiftLeft_one]
    rfl
  · rw [toNat_shiftLeft_one]

/-- One more byte takes the register through its eight bits, most significant first (R40). -/
theorem crc16_concat (bs : List Byte) (b : Byte) :
    crc16 (bs ++ [b]) = [7, 6, 5, 4, 3, 2, 1, 0].foldl (crcShift b) (crc16 bs) := by
  rw [crc16, List.foldl_append, List.foldl_cons, List.foldl_nil, crcByte, crc16]
  exact (List.foldl_hom BitVec.toNat (crcShift_toNat b)).symm

theorem crc16_zero_byte : crc16 [0] = 0xE1F0 := by decide

/-! ## The statements -/

/-- Settles O8: a frame passes exactly when it splits into a body and its CRC, and the register takes a byte bit by bit
as the same numbers do. -/
theorem aFrameIsGoodExactlyWhenItsCrcFits : Obligations.AFrameIsGoodExactlyWhenItsCrcFits :=
  ⟨fun _ _ body _ hlen => goodBody_eq_some_iff hlen body, fun _ _ _ hlen => goodBody_eq_none_iff hlen,
    fun bs => ⟨crc16_le bs, be16_eq (crc16 bs)⟩, rfl, rfl, crc16_zero_byte, crc16_concat⟩

/-- IDENTIFY carries no arguments and reads as its command. -/
theorem exec_identify {s : State} (hs : Ready s) : exec (.identify []) s = .next (conclude 0x64 (cmdIdentify s)) :=
  exec_command (args := []) (cmd := .identify) rfl (Nat.zero_le maxArgs) rfl rfl hs

/-- Settles O36: the row is its command concluded, and the command answers the three codes and keeps the state. -/
theorem identifyNamesThePart : Obligations.IdentifyNamesThePart := by
  intro s hs
  refine ⟨?response, ?bytes⟩
  case response => rw [exec_identify hs, cmdIdentify, conclude_okay]
  case bytes => rfl

end Sys2Proof.Machine
end

section
/-! PROOF. The catalogue read both ways (R167, R176): the encoder's argument bytes decode to the command they were formed
from, and argument bytes that decode are those the encoder forms of a command whose values fit their fields. -/

namespace Sys2Proof.Machine

/-! ## Bytes and numbers -/

theorem u8_of_toNat (b : Byte) : u8 b.toNat = b := by simp [u8]

theorem byte_toNat_le (b : Byte) : b.toNat ≤ 255 := Nat.le_of_lt_succ b.isLt

theorem of16_le (hi lo : Byte) : of16 hi lo ≤ 65535 := by
  have hh := hi.isLt
  have hl := lo.isLt
  simp only [of16]
  omega

theorem be16_of16 (hi lo : Byte) : be16 (of16 hi lo) = [hi, lo] := by
  have hh := hi.isLt
  have hl := lo.isLt
  have hhi : u8 (of16 hi lo / 256) = hi := BitVec.eq_of_toNat_eq (by simp only [u8, of16, BitVec.toNat_ofNat]; omega)
  have hlo : u8 (of16 hi lo) = lo := BitVec.eq_of_toNat_eq (by simp only [u8, of16, BitVec.toNat_ofNat]; omega)
  rw [be16, hhi, hlo]

theorem ofS32_bounds (b3 b2 b1 b0 : Byte) :
    -2147483648 ≤ ofS32 b3 b2 b1 b0 ∧ ofS32 b3 b2 b1 b0 ≤ 2147483647 := by
  have h3 := b3.isLt
  have h2 := b2.isLt
  have h1 := b1.isLt
  have h0 := b0.isLt
  simp only [ofS32]
  split <;> omega

/-- The number of which a signed four-byte value is formed is the value modulo 2³². -/
theorem ofS32_mod (b3 b2 b1 b0 : Byte) : (ofS32 b3 b2 b1 b0 % 4294967296).toNat
    = (b3.toNat * 256 + b2.toNat) * 65536 + (b1.toNat * 256 + b0.toNat) := by
  have h3 := b3.isLt
  have h2 := b2.isLt
  have h1 := b1.isLt
  have h0 := b0.isLt
  simp only [ofS32]
  split <;> omega

theorem sbe32_ofS32 (b3 b2 b1 b0 : Byte) : sbe32 (ofS32 b3 b2 b1 b0) = [b3, b2, b1, b0] := by
  have h3 := b3.isLt
  have h2 := b2.isLt
  have h1 := b1.isLt
  have h0 := b0.isLt
  rw [sbe32, ofS32_mod, be32]
  simp only [List.cons.injEq, and_true]
  refine ⟨?_, ?_, ?_, ?_⟩ <;> exact BitVec.eq_of_toNat_eq (by simp only [u8, BitVec.toNat_ofNat]; omega)

theorem readClockSet_sbe32 {v : Int} (hlo : -2147483648 ≤ v) (hhi : v ≤ 2147483647) :
    readClockSet (sbe32 v) = some (.clockSet v) := by
  simp only [sbe32, be32, readClockSet, ofS32, u8, BitVec.toNat_ofNat, Option.some.injEq, Command.clockSet.injEq]
  split <;> omega

/-! ## Presence bytes -/

theorem testBit_flagSet (fields : List Bool) (i : Nat) : (flagSet fields).testBit i = fields.getD i false := by
  induction fields generalizing i with
  | nil => simp [flagSet]
  | cons b bs ih =>
    cases i with
    | zero => cases b <;> simp [flagSet, Nat.testBit_zero]
    | succ i =>
      have hdiv : ((if b then 1 else 0) + 2 * flagSet bs) / 2 = flagSet bs := by
        cases b <;> simp only [Bool.false_eq_true, if_false, if_true] <;> omega
      rw [flagSet, Nat.testBit_succ, hdiv, ih]
      rfl

theorem flagSet_lt (fields : List Bool) : flagSet fields < 2 ^ fields.length := by
  induction fields with
  | nil => simp [flagSet]
  | cons b bs ih =>
    rw [flagSet, List.length_cons, Nat.pow_succ]
    cases b <;> simp only [Bool.false_eq_true, if_false, if_true] <;> omega

/-- A presence byte tells of each of its fields whether it is present. -/
theorem present_presenceByte {fields : List Bool} {i : Nat} (hi : i < 8) :
    present (presenceByte fields) i = fields.getD i false := by
  rw [present, presenceByte, u8, BitVec.getLsbD_ofNat, testBit_flagSet]
  simp [hi]

theorem toNat_presenceByte_lt (fields : List Bool) :
    (presenceByte fields).toNat < 2 ^ fields.length := by
  rw [presenceByte, u8, BitVec.toNat_ofNat]
  exact Nat.lt_of_le_of_lt (Nat.mod_le _ _) (flagSet_lt fields)

/-- A byte is the presence byte of its low bits when no higher bit is set. -/
theorem presenceByte_present (mask : Byte) {n : Nat} (h : mask.toNat < 2 ^ n) :
    presenceByte ((List.range n).map (present mask)) = mask := by
  refine BitVec.eq_of_getLsbD_eq fun i hi => ?_
  have hp := present_presenceByte (fields := (List.range n).map (present mask)) hi
  rw [present] at hp
  rw [hp]
  by_cases hin : i < n
  · simp [hin, present]
  · have hz : mask.getLsbD i = false := by
      rw [BitVec.getLsbD, Nat.testBit_lt_two_pow (Nat.lt_of_lt_of_le h (Nat.pow_le_pow_right (by decide) (by omega)))]
    simp [hin, hz]

/-! ## The encoder's bytes are read back -/

theorem whole_nil {α : Type} (x : α) : whole (some (x, [])) = some x := rfl

theorem readProps_args {id : Nat} {slug : Option (List Byte)} {p auto : Option Nat}
    (hf : (Command.storyProps id slug p auto).fits) :
    readProps (Command.storyProps id slug p auto).args = some (.storyProps id slug p auto) := by
  obtain ⟨hid, hslug, hp, hauto⟩ := hf
  have h1 := readOpt_text hslug (sendOpt be16 p ++ sendOpt byte1 auto)
  have h2 := readOpt_be16 hp (sendOpt byte1 auto)
  have h3 := readOpt_byte1 hauto []
  have hm := toNat_presenceByte_lt [slug.isSome, p.isSome, auto.isSome]
  simp only [List.append_nil] at h3
  simp only [Command.args, be16, List.cons_append, List.nil_append, List.append_assoc, readProps]
  rw [if_pos (by simpa using hm)]
  simp only [present_presenceByte (show 0 < 8 by decide), present_presenceByte (show 1 < 8 by decide),
    present_presenceByte (show 2 < 8 by decide), List.getD_cons_zero, List.getD_cons_succ]
  simp [h1, h2, h3, whole_nil, of16_be16 hid]

theorem readTune_args {ch : Nat} {f : TuneFields} (hf : (Command.channelTune ch f).fits) :
    readTune (Command.channelTune ch f).args = some (.channelTune ch f) := by
  obtain ⟨vmax, vrev, dz, curve, rampUp, rampDown, jogStep, guard⟩ := f
  obtain ⟨hch, hvmax, hvrev, hdz, hcurve, hup, hdown, hjog, hguard⟩ := hf
  simp only [Command.args, List.cons_append, List.nil_append, List.append_assoc, readTune]
  simp only [present_presenceByte (show 0 < 8 by decide), present_presenceByte (show 1 < 8 by decide),
    present_presenceByte (show 2 < 8 by decide), present_presenceByte (show 3 < 8 by decide),
    present_presenceByte (show 4 < 8 by decide), present_presenceByte (show 5 < 8 by decide),
    present_presenceByte (show 6 < 8 by decide), present_presenceByte (show 7 < 8 by decide),
    List.getD_cons_zero, List.getD_cons_succ]
  have h8 := readOpt_byte1 hguard []
  rw [List.append_nil] at h8
  simp [readOpt_be16 hvmax, readOpt_be16 hvrev, readOpt_byte1 hdz, readOpt_byte1 hcurve, readOpt_byte1 hup,
    readOpt_byte1 hdown, readOpt_byte1 hjog, h8, whole_nil, u8_toNat_le hch]

theorem readStationSet_args {st : Nat} {f : StationFields} (hf : (Command.stationSet st f).fits) :
    readStationSet (Command.stationSet st f).args = some (.stationSet st f) := by
  obtain ⟨role, channel, rank, lapseTime, handOff⟩ := f
  obtain ⟨hst, hrole, hchannel, hrank, hlapse, hhand⟩ := hf
  have hm := toNat_presenceByte_lt [role.isSome, channel.isSome, rank.isSome, lapseTime.isSome, handOff.isSome]
  simp only [Command.args, List.cons_append, List.nil_append, List.append_assoc, readStationSet]
  rw [if_pos (by simpa using hm)]
  simp only [present_presenceByte (show 0 < 8 by decide), present_presenceByte (show 1 < 8 by decide),
    present_presenceByte (show 2 < 8 by decide), present_presenceByte (show 3 < 8 by decide),
    present_presenceByte (show 4 < 8 by decide), List.getD_cons_zero, List.getD_cons_succ]
  have h5 := readOpt_be16 hhand []
  rw [List.append_nil] at h5
  simp [readOpt_byte1 hrole, readOpt_byte1 hchannel, readOpt_byte1 hrank, readOpt_be16 hlapse, h5, whole_nil,
    u8_toNat_le hst]

theorem readCueOutputSet_args {out action : Nat} {width level : Option Nat}
    (hf : (Command.cueOutputSet out action width level).fits) :
    readCueOutputSet (Command.cueOutputSet out action width level).args
      = some (.cueOutputSet out action width level) := by
  obtain ⟨hout, haction, hwidth, hlevel⟩ := hf
  have hm := toNat_presenceByte_lt [width.isSome, level.isSome]
  simp only [Command.args, List.cons_append, List.nil_append, readCueOutputSet]
  rw [if_pos (by simpa using hm)]
  simp only [present_presenceByte (show 0 < 8 by decide), present_presenceByte (show 1 < 8 by decide),
    List.getD_cons_zero, List.getD_cons_succ]
  have h2 := readOpt_byte1 hlevel []
  rw [List.append_nil] at h2
  simp [readOpt_byte1 hwidth, h2, whole_nil, u8_toNat_le hout, u8_toNat_le haction]

theorem readSplice_args {id k m : Nat} {new : List RawLine} (hf : (Command.storySplice id k m new).fits) :
    readSplice (Command.storySplice id k m new).args = some (.storySplice id k m new) := by
  obtain ⟨hid, hk, hm, hnew, htext⟩ := hf
  have hl := readLines_bytes new htext []
  simp only [List.append_nil] at hl
  simp [Command.args, be16, readSplice, u8_toNat_le hnew, hl, of16_be16 hid, u8_toNat_le hk, u8_toNat_le hm]

/-- Every command of the catalogue is read back from the bytes its encoder forms (R167, R176). -/
theorem catalogue_args {cmd : Command} (h : cmd.fits) :
    ∃ read, catalogue cmd.code = some read ∧ read cmd.args = some cmd := by
  cases cmd with
  | storyNew id anchor => exact ⟨_, rfl, readIdId_be16 _ h.1 h.2⟩
  | storyMove id anchor => exact ⟨_, rfl, readIdId_be16 _ h.1 h.2⟩
  | storyFloat id => exact ⟨_, rfl, readId_be16 _ h⟩
  | storyRestore id => exact ⟨_, rfl, readId_be16 _ h⟩
  | storyKill id => exact ⟨_, rfl, readId_be16 _ h⟩
  | storyProps id slug p auto => exact ⟨_, rfl, readProps_args h⟩
  | storyLock id level => exact ⟨_, rfl, readIdByte_be16 _ h.1 h.2⟩
  | storyUnlock id => exact ⟨_, rfl, readId_be16 _ h⟩
  | storySplice id k m new => exact ⟨_, rfl, readSplice_args h⟩
  | storyRead id first count => exact ⟨_, rfl, readStoryRead_be16 h.1 h.2.1 h.2.2⟩
  | storyInfo id => exact ⟨_, rfl, readId_be16 _ h⟩
  | storyCheck id => exact ⟨_, rfl, readId_be16 _ h⟩
  | orderList after count => exact ⟨_, rfl, readIdByte_be16 _ h.1 h.2⟩
  | rundownClear => exact ⟨_, rfl, rfl⟩
  | cuesRearm id => exact ⟨_, rfl, readId_be16 _ h⟩
  | channelLoad ch id k =>
    obtain ⟨hch, hid, hk⟩ := h
    exact ⟨_, rfl, by simp [Command.args, be16, readChannelLoad, u8_toNat_le hch, of16_be16 hid, u8_toNat_le hk]⟩
  | channelRun ch => exact ⟨_, rfl, readByte_u8 _ h⟩
  | channelPark ch => exact ⟨_, rfl, readByte_u8 _ h⟩
  | channelUnload ch => exact ⟨_, rfl, readByte_u8 _ h⟩
  | channelTune ch f => exact ⟨_, rfl, readTune_args h⟩
  | channelStatus ch => exact ⟨_, rfl, readByte_u8 _ h⟩
  | stationSet st f => exact ⟨_, rfl, readStationSet_args h⟩
  | stationStatus st => exact ⟨_, rfl, readByte_u8 _ h⟩
  | headSet hd ch => exact ⟨_, rfl, by simp [Command.args, readHeadSet, u8_toNat_le h.1, u8_toNat_le h.2]⟩
  | headStatus hd => exact ⟨_, rfl, readByte_u8 _ h⟩
  | clockSet v => exact ⟨_, rfl, readClockSet_sbe32 h.1 h.2⟩
  | clockHold => exact ⟨_, rfl, rfl⟩
  | clockResume => exact ⟨_, rfl, rfl⟩
  | timingRead => exact ⟨_, rfl, rfl⟩
  | geometrySet ht =>
    obtain ⟨h1, h2, h3, h4, h5⟩ := h
    exact ⟨_, rfl, by simp [Command.args, Heights.bytes, readGeometrySet, u8_toNat_le h1, u8_toNat_le h2,
      u8_toNat_le h3, u8_toNat_le h4, u8_toNat_le h5]⟩
  | leadSet ch => exact ⟨_, rfl, readByte_u8 _ h⟩
  | cueOutputSet out action width level => exact ⟨_, rfl, readCueOutputSet_args h⟩
  | deviceStatus => exact ⟨_, rfl, rfl⟩
  | identify => exact ⟨_, rfl, rfl⟩

/-- The row at which a command arrives brings its code and its argument bytes. -/
theorem frameOf_rowOf (cmd : Command) : frameOf (rowOf cmd) = some (cmd.code, cmd.args) := by cases cmd <;> rfl

/-- On a ready part the row of a command whose values fit is that command taken and concluded. -/
theorem exec_rowOf {cmd : Command} (hf : cmd.fits) (ha : cmd.args.length ≤ maxArgs) {s : State} (hs : Ready s) :
    exec (rowOf cmd) s = .next (conclude cmd.code (take cmd s)) := by
  obtain ⟨read, hc, hr⟩ := catalogue_args hf
  exact exec_command (frameOf_rowOf cmd) ha hc hr hs

/-! ## What is read is what the encoder forms -/

/-- What a reader of one field takes off the front is what the field's encoder forms, of a value in range. -/
def ReadsBack {α : Type} (read : List Byte → Option (α × List Byte)) (send : α → List Byte) (good : α → Prop) : Prop :=
  ∀ bs x r, read bs = some (x, r) → bs = send x ++ r ∧ good x

theorem read8_readsBack : ReadsBack read8 byte1 (· ≤ 255) := by
  intro bs x r h
  cases bs with
  | nil => simp [read8] at h
  | cons b bs =>
    simp only [read8, Option.some.injEq, Prod.mk.injEq] at h
    obtain ⟨rfl, rfl⟩ := h
    exact ⟨by rw [byte1, u8_of_toNat, List.singleton_append], byte_toNat_le b⟩

theorem read16_readsBack : ReadsBack read16 be16 (· ≤ 65535) := by
  intro bs x r h
  match bs with
  | [] => simp [read16] at h
  | [_] => simp [read16] at h
  | hi :: lo :: bs =>
    simp only [read16, Option.some.injEq, Prod.mk.injEq] at h
    obtain ⟨rfl, rfl⟩ := h
    exact ⟨by rw [be16_of16]; rfl, of16_le hi lo⟩

theorem readText_readsBack : ReadsBack readText textBytes (·.length ≤ 255) := by
  intro bs x r h
  cases bs with
  | nil => simp [readText] at h
  | cons len bs =>
    simp only [readText, Option.ite_none_left_eq_some, Option.some.injEq, Prod.mk.injEq, Nat.not_lt] at h
    obtain ⟨hlen, rfl, rfl⟩ := h
    have hx : (bs.take len.toNat).length = len.toNat := by rw [List.length_take]; omega
    refine ⟨?_, Nat.le_trans (Nat.le_of_eq hx) (byte_toNat_le len)⟩
    rw [textBytes, hx, u8_of_toNat, List.cons_append, List.take_append_drop]

theorem readOpt_readsBack {α : Type} {read : List Byte → Option (α × List Byte)} {send : α → List Byte}
    {good : α → Prop} (h : ReadsBack read send good) {pres : Bool} {bs : List Byte} {x : Option α} {r : List Byte}
    (hr : readOpt pres read bs = some (x, r)) :
    bs = sendOpt send x ++ r ∧ (∀ a ∈ x, good a) ∧ pres = x.isSome := by
  cases pres with
  | false =>
    simp only [readOpt, Bool.false_eq_true, if_false, Option.some.injEq, Prod.mk.injEq] at hr
    obtain ⟨rfl, rfl⟩ := hr
    simp [sendOpt]
  | true =>
    simp only [readOpt, if_true] at hr
    split at hr
    · rename_i a r' hread
      simp only [Option.some.injEq, Prod.mk.injEq] at hr
      obtain ⟨rfl, rfl⟩ := hr
      obtain ⟨hbs, hgood⟩ := h _ _ _ hread
      exact ⟨hbs, by simpa using hgood, rfl⟩
    · cases hr

theorem readLine_readsBack : ReadsBack readLine RawLine.bytes (·.text.length ≤ 255) := by
  intro bs x r h
  cases bs with
  | nil => simp [readLine] at h
  | cons attr bs =>
    simp only [readLine] at h
    split at h
    · rename_i t r' hread
      simp only [Option.some.injEq, Prod.mk.injEq] at h
      obtain ⟨rfl, rfl⟩ := h
      obtain ⟨hbs, hgood⟩ := readText_readsBack _ _ _ hread
      exact ⟨by rw [RawLine.bytes, hbs, List.cons_append], hgood⟩
    · cases h

theorem readLines_readsBack (n : Nat) : ∀ {bs : List Byte} {ls : List RawLine} {r : List Byte},
    readLines n bs = some (ls, r) →
      bs = ls.flatMap RawLine.bytes ++ r ∧ ls.length = n ∧ ∀ l ∈ ls, l.text.length ≤ 255 := by
  induction n with
  | zero =>
    intro bs ls r h
    simp only [readLines, Option.some.injEq, Prod.mk.injEq] at h
    obtain ⟨rfl, rfl⟩ := h
    simp
  | succ n ih =>
    intro bs ls r h
    simp only [readLines] at h
    split at h
    · rename_i l r' hline
      split at h
      · rename_i ls' r'' hlines
        simp only [Option.some.injEq, Prod.mk.injEq] at h
        obtain ⟨rfl, rfl⟩ := h
        obtain ⟨hbs, hgood⟩ := readLine_readsBack _ _ _ hline
        obtain ⟨hbs', hlen, hgood'⟩ := ih hlines
        refine ⟨by rw [hbs, hbs', List.flatMap_cons, List.append_assoc], by rw [List.length_cons, hlen], ?_⟩
        exact List.forall_mem_cons.mpr ⟨hgood, hgood'⟩
      · cases h
    · cases h

theorem whole_eq_some {α : Type} {x : α} {r : List Byte} {y : α} (h : whole (some (x, r)) = some y) :
    r = [] ∧ x = y := by
  cases r with
  | nil => exact ⟨rfl, by simpa [whole] using h⟩
  | cons => simp [whole] at h

/-- A command that its frame's code and argument bytes stand for. -/
abbrev Command.Encodes (cmd : Command) (code : Byte) (args : List Byte) : Prop :=
  cmd.fits ∧ cmd.code = code ∧ cmd.args = args

theorem readId_eq_some {f : Nat → Command} {args : List Byte} {cmd : Command} (h : readId f args = some cmd) :
    ∃ id, id ≤ 65535 ∧ cmd = f id ∧ args = be16 id := by
  match args with
  | [i1, i0] =>
    simp only [readId, Option.some.injEq] at h
    exact ⟨_, of16_le i1 i0, h.symm, (be16_of16 i1 i0).symm⟩
  | [] => simp [readId] at h
  | [_] => simp [readId] at h
  | _ :: _ :: _ :: _ => simp [readId] at h

theorem readIdId_eq_some {f : Nat → Nat → Command} {args : List Byte} {cmd : Command} (h : readIdId f args = some cmd) :
    ∃ m n, m ≤ 65535 ∧ n ≤ 65535 ∧ cmd = f m n ∧ args = be16 m ++ be16 n := by
  match args with
  | [a1, a0, b1, b0] =>
    simp only [readIdId, Option.some.injEq] at h
    exact ⟨_, _, of16_le a1 a0, of16_le b1 b0, h.symm, by rw [be16_of16, be16_of16]; rfl⟩
  | [] => simp [readIdId] at h
  | [_] => simp [readIdId] at h
  | [_, _] => simp [readIdId] at h
  | [_, _, _] => simp [readIdId] at h
  | _ :: _ :: _ :: _ :: _ :: _ => simp [readIdId] at h

theorem readIdByte_eq_some {f : Nat → Nat → Command} {args : List Byte} {cmd : Command}
    (h : readIdByte f args = some cmd) :
    ∃ n b, n ≤ 65535 ∧ b ≤ 255 ∧ cmd = f n b ∧ args = be16 n ++ [u8 b] := by
  match args with
  | [i1, i0, b] =>
    simp only [readIdByte, Option.some.injEq] at h
    exact ⟨_, _, of16_le i1 i0, byte_toNat_le b, h.symm, by rw [be16_of16, u8_of_toNat]; rfl⟩
  | [] => simp [readIdByte] at h
  | [_] => simp [readIdByte] at h
  | [_, _] => simp [readIdByte] at h
  | _ :: _ :: _ :: _ :: _ => simp [readIdByte] at h

theorem readByte_eq_some {f : Nat → Command} {args : List Byte} {cmd : Command} (h : readByte f args = some cmd) :
    ∃ b, b ≤ 255 ∧ cmd = f b ∧ args = [u8 b] := by
  match args with
  | [b] =>
    simp only [readByte, Option.some.injEq] at h
    exact ⟨_, byte_toNat_le b, h.symm, by rw [u8_of_toNat]⟩
  | [] => simp [readByte] at h
  | _ :: _ :: _ => simp [readByte] at h

theorem readNone_eq_some {c : Command} {args : List Byte} {cmd : Command} (h : readNone c args = some cmd) :
    cmd = c ∧ args = [] := by
  cases args with
  | nil => exact ⟨by simpa [readNone] using h.symm, rfl⟩
  | cons => simp [readNone] at h

theorem readStoryRead_eq_some {args : List Byte} {cmd : Command} (h : readStoryRead args = some cmd) :
    cmd.Encodes 0x19 args := by
  match args with
  | [i1, i0, first, count] =>
    simp only [readStoryRead, Option.some.injEq] at h
    subst h
    exact ⟨⟨of16_le i1 i0, byte_toNat_le first, byte_toNat_le count⟩, rfl,
      by simp [Command.args, be16_of16, u8_of_toNat]⟩
  | [] => simp [readStoryRead] at h
  | [_] => simp [readStoryRead] at h
  | [_, _] => simp [readStoryRead] at h
  | [_, _, _] => simp [readStoryRead] at h
  | _ :: _ :: _ :: _ :: _ :: _ => simp [readStoryRead] at h

theorem readChannelLoad_eq_some {args : List Byte} {cmd : Command} (h : readChannelLoad args = some cmd) :
    cmd.Encodes 0x30 args := by
  match args with
  | [ch, i1, i0, k] =>
    simp only [readChannelLoad, Option.some.injEq] at h
    subst h
    exact ⟨⟨byte_toNat_le ch, of16_le i1 i0, byte_toNat_le k⟩, rfl, by simp [Command.args, be16_of16, u8_of_toNat]⟩
  | [] => simp [readChannelLoad] at h
  | [_] => simp [readChannelLoad] at h
  | [_, _] => simp [readChannelLoad] at h
  | [_, _, _] => simp [readChannelLoad] at h
  | _ :: _ :: _ :: _ :: _ :: _ => simp [readChannelLoad] at h

theorem readHeadSet_eq_some {args : List Byte} {cmd : Command} (h : readHeadSet args = some cmd) :
    cmd.Encodes 0x48 args := by
  match args with
  | [hd, ch] =>
    simp only [readHeadSet, Option.some.injEq] at h
    subst h
    exact ⟨⟨byte_toNat_le hd, byte_toNat_le ch⟩, rfl, by simp [Command.args, u8_of_toNat]⟩
  | [] => simp [readHeadSet] at h
  | [_] => simp [readHeadSet] at h
  | _ :: _ :: _ :: _ => simp [readHeadSet] at h

theorem readClockSet_eq_some {args : List Byte} {cmd : Command} (h : readClockSet args = some cmd) :
    cmd.Encodes 0x50 args := by
  match args with
  | [b3, b2, b1, b0] =>
    simp only [readClockSet, Option.some.injEq] at h
    subst h
    exact ⟨ofS32_bounds b3 b2 b1 b0, rfl, sbe32_ofS32 b3 b2 b1 b0⟩
  | [] => simp [readClockSet] at h
  | [_] => simp [readClockSet] at h
  | [_, _] => simp [readClockSet] at h
  | [_, _, _] => simp [readClockSet] at h
  | _ :: _ :: _ :: _ :: _ :: _ => simp [readClockSet] at h

theorem readGeometrySet_eq_some {args : List Byte} {cmd : Command} (h : readGeometrySet args = some cmd) :
    cmd.Encodes 0x60 args := by
  match args with
  | [a, b, c, d, e] =>
    simp only [readGeometrySet, Option.some.injEq] at h
    subst h
    exact ⟨⟨byte_toNat_le a, byte_toNat_le b, byte_toNat_le c, byte_toNat_le d, byte_toNat_le e⟩, rfl,
      by simp [Command.args, Heights.bytes, u8_of_toNat]⟩
  | [] => simp [readGeometrySet] at h
  | [_] => simp [readGeometrySet] at h
  | [_, _] => simp [readGeometrySet] at h
  | [_, _, _] => simp [readGeometrySet] at h
  | [_, _, _, _] => simp [readGeometrySet] at h
  | _ :: _ :: _ :: _ :: _ :: _ :: _ => simp [readGeometrySet] at h

theorem readSplice_eq_some {args : List Byte} {cmd : Command} (h : readSplice args = some cmd) :
    cmd.Encodes 0x18 args := by
  match args with
  | i1 :: i0 :: k :: m :: c :: r =>
    simp only [readSplice] at h
    split at h
    · rename_i ls hlines
      simp only [Option.some.injEq] at h
      subst h
      obtain ⟨hr, hlen, htext⟩ := readLines_readsBack _ hlines
      refine ⟨⟨of16_le i1 i0, byte_toNat_le k, byte_toNat_le m, hlen ▸ byte_toNat_le c, htext⟩, rfl, ?_⟩
      simp [Command.args, be16_of16, u8_of_toNat, hlen, hr]
    · cases h
  | [] => simp [readSplice] at h
  | [_] => simp [readSplice] at h
  | [_, _] => simp [readSplice] at h
  | [_, _, _] => simp [readSplice] at h
  | [_, _, _, _] => simp [readSplice] at h

theorem readProps_eq_some {args : List Byte} {cmd : Command} (h : readProps args = some cmd) :
    cmd.Encodes 0x15 args := by
  match args with
  | i1 :: i0 :: mask :: r =>
    simp only [readProps, Option.bind_eq_bind, Option.bind_eq_some_iff, Prod.exists,
      Option.ite_none_right_eq_some] at h
    obtain ⟨hm, slug, r1, h1, p, r2, h2, auto, r3, h3, h4⟩ := h
    obtain ⟨e1, g1, m1⟩ := readOpt_readsBack readText_readsBack h1
    obtain ⟨e2, g2, m2⟩ := readOpt_readsBack read16_readsBack h2
    obtain ⟨e3, g3, m3⟩ := readOpt_readsBack read8_readsBack h3
    obtain ⟨rfl, rfl⟩ := whole_eq_some h4
    have hmask := presenceByte_present mask (n := 3) hm
    simp only [show List.range 3 = [0, 1, 2] from rfl, List.map_cons, List.map_nil, m1, m2, m3] at hmask
    exact ⟨⟨of16_le i1 i0, g1, g2, g3⟩, rfl, by simp [Command.args, be16_of16, hmask, e1, e2, e3]⟩
  | [] => simp [readProps] at h
  | [_] => simp [readProps] at h
  | [_, _] => simp [readProps] at h

theorem readTune_eq_some {args : List Byte} {cmd : Command} (h : readTune args = some cmd) :
    cmd.Encodes 0x34 args := by
  match args with
  | ch :: mask :: r =>
    simp only [readTune, Option.bind_eq_bind, Option.bind_eq_some_iff, Prod.exists] at h
    obtain ⟨vmax, r1, h1, vrev, r2, h2, dz, r3, h3, curve, r4, h4, up, r5, h5, down, r6, h6, jogs, r7, h7, guard, r8,
      h8, h9⟩ := h
    obtain ⟨e1, g1, m1⟩ := readOpt_readsBack read16_readsBack h1
    obtain ⟨e2, g2, m2⟩ := readOpt_readsBack read16_readsBack h2
    obtain ⟨e3, g3, m3⟩ := readOpt_readsBack read8_readsBack h3
    obtain ⟨e4, g4, m4⟩ := readOpt_readsBack read8_readsBack h4
    obtain ⟨e5, g5, m5⟩ := readOpt_readsBack read8_readsBack h5
    obtain ⟨e6, g6, m6⟩ := readOpt_readsBack read8_readsBack h6
    obtain ⟨e7, g7, m7⟩ := readOpt_readsBack read8_readsBack h7
    obtain ⟨e8, g8, m8⟩ := readOpt_readsBack read8_readsBack h8
    obtain ⟨rfl, rfl⟩ := whole_eq_some h9
    have hmask := presenceByte_present mask (n := 8) mask.isLt
    simp only [show List.range 8 = [0, 1, 2, 3, 4, 5, 6, 7] from rfl, List.map_cons, List.map_nil, m1, m2, m3, m4, m5,
      m6, m7, m8] at hmask
    exact ⟨⟨byte_toNat_le ch, g1, g2, g3, g4, g5, g6, g7, g8⟩, rfl,
      by simp [Command.args, u8_of_toNat, hmask, e1, e2, e3, e4, e5, e6, e7, e8]⟩
  | [] => simp [readTune] at h
  | [_] => simp [readTune] at h

theorem readStationSet_eq_some {args : List Byte} {cmd : Command} (h : readStationSet args = some cmd) :
    cmd.Encodes 0x40 args := by
  match args with
  | st :: mask :: r =>
    simp only [readStationSet, Option.bind_eq_bind, Option.bind_eq_some_iff, Prod.exists,
      Option.ite_none_right_eq_some] at h
    obtain ⟨hm, role, r1, h1, channel, r2, h2, rank, r3, h3, lapse, r4, h4, hand, r5, h5, h6⟩ := h
    obtain ⟨e1, g1, m1⟩ := readOpt_readsBack read8_readsBack h1
    obtain ⟨e2, g2, m2⟩ := readOpt_readsBack read8_readsBack h2
    obtain ⟨e3, g3, m3⟩ := readOpt_readsBack read8_readsBack h3
    obtain ⟨e4, g4, m4⟩ := readOpt_readsBack read16_readsBack h4
    obtain ⟨e5, g5, m5⟩ := readOpt_readsBack read16_readsBack h5
    obtain ⟨rfl, rfl⟩ := whole_eq_some h6
    have hmask := presenceByte_present mask (n := 5) hm
    simp only [show List.range 5 = [0, 1, 2, 3, 4] from rfl, List.map_cons, List.map_nil, m1, m2, m3, m4, m5] at hmask
    exact ⟨⟨byte_toNat_le st, g1, g2, g3, g4, g5⟩, rfl,
      by simp [Command.args, u8_of_toNat, hmask, e1, e2, e3, e4, e5]⟩
  | [] => simp [readStationSet] at h
  | [_] => simp [readStationSet] at h

theorem readCueOutputSet_eq_some {args : List Byte} {cmd : Command} (h : readCueOutputSet args = some cmd) :
    cmd.Encodes 0x62 args := by
  match args with
  | out :: action :: mask :: r =>
    simp only [readCueOutputSet, Option.bind_eq_bind, Option.bind_eq_some_iff, Prod.exists,
      Option.ite_none_right_eq_some] at h
    obtain ⟨hm, width, r1, h1, level, r2, h2, h3⟩ := h
    obtain ⟨e1, g1, m1⟩ := readOpt_readsBack read8_readsBack h1
    obtain ⟨e2, g2, m2⟩ := readOpt_readsBack read8_readsBack h2
    obtain ⟨rfl, rfl⟩ := whole_eq_some h3
    have hmask := presenceByte_present mask (n := 2) hm
    simp only [show List.range 2 = [0, 1] from rfl, List.map_cons, List.map_nil, m1, m2] at hmask
    exact ⟨⟨byte_toNat_le out, byte_toNat_le action, g1, g2⟩, rfl,
      by simp [Command.args, u8_of_toNat, hmask, e1, e2]⟩
  | [] => simp [readCueOutputSet] at h
  | [_] => simp [readCueOutputSet] at h
  | [_, _] => simp [readCueOutputSet] at h

theorem eq_u8_of_toNat_eq {code : Byte} {n : Nat} (h : code.toNat = n) : code = u8 n := by rw [← h, u8_of_toNat]

/-- Argument bytes that pass the length test of their code are those of a command whose values fit. -/
theorem encodes_of_read {code : Byte} {args : List Byte} {read : List Byte → Option Command} {cmd : Command}
    (hc : catalogue code = some read) (hr : read args = some cmd) : cmd.Encodes code args := by
  simp only [catalogue] at hc
  split at hc <;> rename_i hcode <;> cases hc <;> obtain rfl := eq_u8_of_toNat_eq hcode
  · obtain ⟨m, n, hm, hn, rfl, rfl⟩ := readIdId_eq_some hr
    exact ⟨⟨hm, hn⟩, rfl, rfl⟩
  · obtain ⟨m, n, hm, hn, rfl, rfl⟩ := readIdId_eq_some hr
    exact ⟨⟨hm, hn⟩, rfl, rfl⟩
  · obtain ⟨id, hid, rfl, rfl⟩ := readId_eq_some hr
    exact ⟨hid, rfl, rfl⟩
  · obtain ⟨id, hid, rfl, rfl⟩ := readId_eq_some hr
    exact ⟨hid, rfl, rfl⟩
  · obtain ⟨id, hid, rfl, rfl⟩ := readId_eq_some hr
    exact ⟨hid, rfl, rfl⟩
  · exact readProps_eq_some hr
  · obtain ⟨n, b, hn, hb, rfl, rfl⟩ := readIdByte_eq_some hr
    exact ⟨⟨hn, hb⟩, rfl, rfl⟩
  · obtain ⟨id, hid, rfl, rfl⟩ := readId_eq_some hr
    exact ⟨hid, rfl, rfl⟩
  · exact readSplice_eq_some hr
  · exact readStoryRead_eq_some hr
  · obtain ⟨id, hid, rfl, rfl⟩ := readId_eq_some hr
    exact ⟨hid, rfl, rfl⟩
  · obtain ⟨id, hid, rfl, rfl⟩ := readId_eq_some hr
    exact ⟨hid, rfl, rfl⟩
  · obtain ⟨n, b, hn, hb, rfl, rfl⟩ := readIdByte_eq_some hr
    exact ⟨⟨hn, hb⟩, rfl, rfl⟩
  · obtain ⟨rfl, rfl⟩ := readNone_eq_some hr
    exact ⟨trivial, rfl, rfl⟩
  · obtain ⟨id, hid, rfl, rfl⟩ := readId_eq_some hr
    exact ⟨hid, rfl, rfl⟩
  · exact readChannelLoad_eq_some hr
  · obtain ⟨b, hb, rfl, rfl⟩ := readByte_eq_some hr
    exact ⟨hb, rfl, rfl⟩
  · obtain ⟨b, hb, rfl, rfl⟩ := readByte_eq_some hr
    exact ⟨hb, rfl, rfl⟩
  · obtain ⟨b, hb, rfl, rfl⟩ := readByte_eq_some hr
    exact ⟨hb, rfl, rfl⟩
  · exact readTune_eq_some hr
  · obtain ⟨b, hb, rfl, rfl⟩ := readByte_eq_some hr
    exact ⟨hb, rfl, rfl⟩
  · exact readStationSet_eq_some hr
  · obtain ⟨b, hb, rfl, rfl⟩ := readByte_eq_some hr
    exact ⟨hb, rfl, rfl⟩
  · exact readHeadSet_eq_some hr
  · obtain ⟨b, hb, rfl, rfl⟩ := readByte_eq_some hr
    exact ⟨hb, rfl, rfl⟩
  · exact readClockSet_eq_some hr
  · obtain ⟨rfl, rfl⟩ := readNone_eq_some hr
    exact ⟨trivial, rfl, rfl⟩
  · obtain ⟨rfl, rfl⟩ := readNone_eq_some hr
    exact ⟨trivial, rfl, rfl⟩
  · obtain ⟨rfl, rfl⟩ := readNone_eq_some hr
    exact ⟨trivial, rfl, rfl⟩
  · exact readGeometrySet_eq_some hr
  · obtain ⟨b, hb, rfl, rfl⟩ := readByte_eq_some hr
    exact ⟨hb, rfl, rfl⟩
  · exact readCueOutputSet_eq_some hr
  · obtain ⟨rfl, rfl⟩ := readNone_eq_some hr
    exact ⟨trivial, rfl, rfl⟩
  · obtain ⟨rfl, rfl⟩ := readNone_eq_some hr
    exact ⟨trivial, rfl, rfl⟩

/-- The catalogue holds the codes of R171 and no other. -/
theorem catalogue_eq_none_iff (code : Byte) : catalogue code = none ↔ code.toNat ∉ catalogueCodes := by
  simp only [catalogue]
  split <;> simp_all [catalogueCodes]

end Sys2Proof.Machine
end

section
/-! PROOF. The queue, the passing of time, reset and start-up (R138, R175): what a step is, what one millisecond does, what
both reset rows lead to, and what a part that has not started does with characters. -/

namespace Sys2Proof.Machine

/-! ## The step -/

theorem step_of_pending {s : State} {c : Instr} {rest : List Instr} (h : s.pending = c :: rest) :
    step s = exec c { s with pending := rest } := by
  simp only [step, h]

theorem step_of_idle {s : State} (h : s.pending = []) : step s = .next (tick s) := by
  simp only [step, h]

/-- Settles O1: the queue's front is the command run. -/
theorem stepRunsTheFrontCommand : Obligations.StepRunsTheFrontCommand := fun _ _ _ h => step_of_pending h

/-! ## One millisecond -/

theorem tick_arbiter (s : State) (c : ChannelId) : (tick s).arbiter c = (s.arbiter c).tick := by cases c <;> rfl

theorem tick_station (s : State) (p : Fin 4) : (tick s).station p =
    { s.station p with lapse := Timer.tick (s.station p).lapse, gap := Timer.tick (s.station p).gap } := by
  simp [tick, State.station]

theorem tick_head (s : State) (h : Fin 4) :
    (tick s).head h = { s.head h with gap := Timer.tick (s.head h).gap } := by
  simp [tick, State.head]

theorem tick_output (s : State) (o : Fin 4) :
    (tick s).output o = { s.output o with pulse := Timer.tick (s.output o).pulse } := by
  simp [tick, State.output]

/-- Owner idle time counts while there is an owner (R138). -/
theorem Arbitration.tick_eq (a : Arbitration) :
    a.tick = { a with idle := if a.owner = none then a.idle else min 5000 (a.idle + 1) } := by
  rw [Arbitration.tick]
  split <;> rfl

/-- Settles O2: each block's part of the tick. -/
theorem anIdleStepPassesOneMillisecond : Obligations.AnIdleStepPassesOneMillisecond := fun s hs =>
  ⟨tick s, step_of_idle hs, fun c => (tick_arbiter s c).trans (Arbitration.tick_eq _), tick_station s, tick_head s,
    tick_output s, rfl, rfl, rfl⟩

/-! ## Reset -/

theorem forall_fin_four {P : Fin 4 → Prop} (h0 : P 0) (h1 : P 1) (h2 : P 2) (h3 : P 3) : ∀ p, P p :=
  Fin.forall_fin_succ.mpr ⟨h0, Fin.forall_fin_succ.mpr ⟨h1, Fin.forall_fin_succ.mpr ⟨h2,
    Fin.forall_fin_one.mpr h3⟩⟩⟩

/-- The line is formed from flags that a reset clears (R172). -/
theorem reset_attention (s : State) : (resetPart s).attention = false := by
  rw [show (resetPart s).attention = State.held.attention from rfl]
  simp [State.attention, State.sources, Sources.any, State.held, Channel.held, Channel.flagsPending, CueUnit.reset,
    Station.reset, Station.errorPending, Head.reset, Clock.reset, Vector.toList]

/-- Settles O3: both rows are the reset, and each port and channel of the state it leads to is at its reset record. -/
theorem resetGivesEveryBlockItsResetValues : Obligations.ResetGivesEveryBlockItsResetValues := by
  intro s
  refine ⟨resetPart s, rfl, rfl, rfl, rfl, rfl, rfl, rfl, rfl, ?channels, ?arbiters, rfl, ?outputs, rfl, rfl, rfl,
    ?stations, rfl, rfl, ?heads, rfl, rfl, rfl, rfl, ?attention, rfl, rfl⟩
  case attention => exact reset_attention s
  case channels => rintro (_ | _) <;> exact ⟨rfl, rfl, rfl, rfl, rfl, rfl, rfl, rfl, rfl, rfl⟩
  case arbiters => rintro (_ | _) <;> rfl
  case outputs => exact forall_fin_four rfl rfl rfl rfl
  case stations =>
    refine forall_fin_four ?_ ?_ ?_ ?_ <;>
      exact ⟨rfl, rfl, rfl, rfl, rfl, rfl, rfl, rfl, rfl, rfl, rfl, rfl, rfl⟩
  case heads =>
    refine forall_fin_four ?_ ?_ ?_ ?_ <;> exact ⟨rfl, rfl, rfl, rfl, rfl, rfl, rfl, rfl, rfl⟩

/-- The state after reset meets what the store's invariants say of an empty rundown. -/
theorem reset_store : StoreSound State.reset ∧ RecordsSound State.reset ∧ OpenSetsSound State.reset
    ∧ GeometrySound State.reset := by
  refine ⟨?_, ?_, ?_, ?_⟩ <;> decide

/-- No channel has a read point after reset. -/
theorem reset_readPoint (c : ChannelId) : (State.reset.channel c).readPoint = none := by cases c <;> rfl

theorem reset_speeds : SpeedsBounded State.reset := by decide

theorem reset_motion : ReadPointsInside State.reset ∧ ClampsAtEdges State.reset := by
  refine ⟨fun c _ rp hrp => ?_, fun c _ rp hrp => ?_⟩ <;> cases (reset_readPoint c).symm.trans hrp

/-- Settles O60: every field stands at its reset value, so each invariant is a fact about one fixed state. -/
theorem resetMeetsEveryInvariant : Obligations.ResetMeetsEveryInvariant := by
  obtain ⟨hstore, hrecords, hopen, hgeometry⟩ := reset_store
  refine ⟨hstore, hrecords, hopen, hgeometry, ?motion, ?speeds, ?ownership, ?heads, ?link, ?cues, ?ready⟩
  case motion => exact ⟨hstore.1, hopen.2.1, hopen.2.2.2, hgeometry.1, reset_speeds, reset_motion⟩
  case speeds => exact reset_speeds
  case ownership => decide
  case heads => decide
  case link => decide
  case cues => decide
  case ready => decide

/-! ## Start-up -/

theorem gatewayRow_of_fits {args : List Byte} (ha : args.length ≤ maxArgs) (code : Byte) (s : State) :
    gatewayRow code args s = .next (gatewayChars ((gatewayFrame code args).map goodChar) s) :=
  if_pos (decide_eq_true ha)

/-- A part that has not started discards the frame of every gateway row that has one. -/
theorem exec_frame_before_start {i : Instr} {code : Byte} {args : List Byte} (h : frameOf i = some (code, args))
    (ha : args.length ≤ maxArgs) {s : State} (hs : s.started = false) : exec i s = .next s := by
  rw [exec_frame h, gatewayRow_of_fits ha, gatewayChars_before_start hs]

/-- Settles O4: the rows of characters come down to characters discarded one by one; start-up writes what R175 names. -/
theorem startUpOpensThePorts : Obligations.StartUpOpensThePorts := by
  intro s
  refine ⟨fun hs rate => ⟨startUp rate s, rfl, ?_⟩, fun hs rate => ?second, fun hs i code args hi ha => ?frame,
    fun hs chars => ?faulty, fun hs p chars c => ?ports⟩
  · simp only [startUp, hs]
    exact ⟨rfl, rfl, by rintro (_ | _) <;> rfl, rfl⟩
  case second => simp only [exec, execStartUpComplete, startUp, hs, if_true]
  case frame => exact exec_frame_before_start hi ha hs
  case faulty =>
    simp only [exec, execFaultyFrame, execBusyReply, gatewayChars_before_start hs, and_self]
  case ports =>
    have hst := stationChars_before_start hs p chars
    have hhd := headChars_before_start hs p chars
    simp only [stationChars] at hst
    simp only [headChars] at hhd
    simp only [exec, execStationReport, execStationFramingFault, execFetch, execHeadFramingFault, hst, hhd,
      stationChar_before_start hs, headChar_before_start hs, and_self]

end Sys2Proof.Machine
end

section
/-! PROOF. The gateway link (R163 to R170): the rows of its frames on a ready part and on one with a command in flight,
and how a command of the catalogue can end. -/

namespace Sys2Proof.Machine

/-! ## Dispatch -/

/-- Settles O5: what the encoder forms is read back, so the row is its command taken and concluded. -/
theorem everyCommandFrameIsDispatched : Obligations.EveryCommandFrameIsDispatched := by
  intro cmd s hf ha hs
  obtain ⟨read, hc, hr⟩ := catalogue_args hf
  refine ⟨?_, frameOf_rowOf cmd, exec_rowOf hf ha hs⟩
  rw [hc, Option.bind_some, hr]

/-- Settles O6: a code outside the catalogue has no form, and arguments that read as a command are those of a fitting
command with the frame's code. -/
theorem misfitFramesAreAnswered : Obligations.MisfitFramesAreAnswered := by
  intro i code args s hi ha hs
  have hunknown : code.toNat ∉ catalogueCodes → exec i s = .next (s.respond .unknown code .empty) := fun hcode => by
    rw [exec_frame_ready hi ha hs, handleFrame_unknown ((catalogue_eq_none_iff code).mpr hcode)]
  refine ⟨fun h hcode => h ▸ hunknown hcode, hunknown, fun hcode hmisfit => ?_⟩
  obtain ⟨read, hc⟩ := Option.ne_none_iff_exists'.mp (mt (catalogue_eq_none_iff code).mp (not_not_intro hcode))
  rw [exec_frame_ready hi ha hs, handleFrame_length hc]
  refine Option.eq_none_iff_forall_ne_some.mpr fun cmd hr => ?_
  obtain ⟨hfits, hcmd, hargs⟩ := encodes_of_read hc hr
  exact hmisfit cmd hfits hcmd hargs

/-! ## Faulty frames -/

theorem handleFrame_none (s : State) : handleFrame none s = s.respond .frame 0 .empty := rfl

/-- What the end of a faulty frame does: an answer FRAME while IDLE, and otherwise a BUSY reply of code 0. -/
theorem frameEnds_none_of_idle {s : State} (h : s.link.state = .idle) :
    frameEnds none s = s.respond .frame 0 .empty := by
  rw [frameEnds, if_pos h, handleFrame_none]

/-- The slot takes the code of the first frame that ends in flight (R169). -/
theorem busyFrame_eq (body : Option (List Byte)) (s : State) : busyFrame body s
    = if s.link.slot = none then { s with link := { s.link with slot := some ((body.bind List.head?).getD 0) } }
      else s := by
  rw [busyFrame]
  cases h : s.link.slot <;> simp

theorem frameEnds_of_inFlight {s : State} (h : s.link.state ≠ .idle) (body : Option (List Byte)) :
    frameEnds body s = busyFrame body s := if_neg h

/-- A frame whose CRC is another number than that of its length and body ends as a faulty one (R164). -/
theorem gatewayChars_wrong_crc {s : State} (hs : s.started = true) (hr : s.link.rx = .hunting) {body : List Byte}
    (h1 : 1 ≤ body.length) (h2 : body.length ≤ 250) {crc : Nat} (hcrc : crc ≤ 65535)
    (hne : crc ≠ crc16 (u8 body.length :: body)) :
    gatewayChars ((0x7E :: u8 body.length :: (body ++ be16 crc)).map goodChar) s = frameEnds none s.hunting := by
  have hu : (u8 body.length).toNat = body.length := u8_toNat (by omega)
  have hbytes : be16 crc ≠ be16 (crc16 (u8 body.length :: body)) := fun h => hne <| by
    simp only [be16, List.cons.injEq, and_true] at h
    rw [← of16_be16 hcrc, ← of16_be16 (crc16_le (u8 body.length :: body)), h.1, h.2]
  rw [gatewayChars_frame hs hr (by omega) (by omega) (by simp [be16, hu]), hu, goodBody_wrong hbytes]

/-- Some characters of a body that they do not complete are kept. -/
theorem gatewayChars_partial_body {len : Nat} (bs : List Byte) :
    ∀ {s : State} {got : List Byte}, s.started = true → s.link.rx = .body len got →
      got.length + bs.length < len + 2 →
      ∃ t, gatewayChars (bs.map goodChar) s = t ∧ t.started = true ∧ t.link.rx = .body len (got ++ bs)
        ∧ t.hunting = s.hunting := by
  induction bs with
  | nil => intro s got hs hr _; exact ⟨s, rfl, hs, by rw [hr, List.append_nil], rfl⟩
  | cons b bs ih =>
    intro s got hs hr hl
    simp only [List.length_cons] at hl
    rw [List.map_cons, gatewayChars_cons, gatewayChar_body hs hr (by omega)]
    obtain ⟨t, ht, hst, hrx, hh⟩ := ih (s := { s with link := { s.link with rx := .body len (got ++ [b]), gap := some 20 } })
      (got := got ++ [b]) hs rfl (by simp; omega)
    exact ⟨t, ht, hst, by rw [hrx, List.append_assoc, List.singleton_append], hh⟩

/-- A missing stop bit past the length byte ends the frame as a faulty one, wherever in the body it comes. -/
theorem gatewayChars_stop_in_body {s : State} (hs : s.started = true) (hr : s.link.rx = .hunting) {len : Byte}
    {got : List Byte} (h1 : 1 ≤ len.toNat) (h2 : len.toNat ≤ 250) (hg : got.length < len.toNat + 2) (b : Byte) :
    gatewayChars ((0x7E :: len :: got).map goodChar ++ [⟨b, false⟩]) s = frameEnds none s.hunting := by
  rw [gatewayChars_append, List.map_cons, List.map_cons, gatewayChars_cons (goodChar 0x7E), gatewayChar_marker hs hr,
    gatewayChars_cons (goodChar len), gatewayChar_length (by exact hs) rfl h1 h2]
  obtain ⟨t, ht, hst, hrx, hh⟩ := gatewayChars_partial_body (len := len.toNat) got
    (s := { s with link := { s.link with rx := .body len.toNat [], gap := some 20 } }) (got := []) hs rfl
    (by simpa using hg)
  rw [show gatewayChars [⟨b, false⟩] = gatewayChar ⟨b, false⟩ from rfl]
  simp only at ht ⊢
  rw [ht, gatewayChar_stop_in_body hst hrx, hh]
  rfl

theorem gatewayGap_body (s : State) (gap : Timer) (len : Nat) (got : List Byte) :
    gatewayGap { s with link := { s.link with rx := .body len got, gap := gap } } = frameEnds none s.hunting := rfl

theorem gatewayGap_marker (s : State) (gap : Timer) :
    gatewayGap { s with link := { s.link with rx := .marker, gap := gap } } = s.hunting := rfl

theorem gatewayGap_hunting {s : State} (h : s.link.rx = .hunting) : gatewayGap s = s := by
  simp only [gatewayGap, h]

theorem Ready.hunting {s : State} (hs : Ready s) : s.hunting = s := State.hunting_eq_self hs.2.2.1 hs.2.2.2

/-- Settles O7: each faulty frame comes down to the end of a frame without a good body on an idle link. -/
theorem faultyFramesAreAnswered : Obligations.FaultyFramesAreAnswered := by
  intro s hs
  have ⟨hstarted, hidle, hrx, _⟩ := hs
  have hend : frameEnds none s.hunting = s.respond .frame 0 .empty := by
    rw [Ready.hunting hs, frameEnds_none_of_idle hidle]
  refine ⟨fun body crc h1 h2 hcrc hne => ?crc, fun b hb => ?length, fun len got b h1 h2 hg => ?stop, fun b => ?marker,
    fun gap len got => ?gap, fun gap => ?gap_marker, ?gap_outside⟩
  case crc => rw [exec, execFaultyFrame, gatewayChars_wrong_crc hstarted hrx h1 h2 hcrc hne, hend]
  case length =>
    rw [exec, execFaultyFrame, gatewayChars_cons, gatewayChar_marker hstarted hrx, gatewayChars_cons,
      gatewayChar_bad_length (by exact hstarted) rfl hb, gatewayChars_nil]
    exact congrArg _ hend
  case stop => rw [exec, execFaultyFrame, gatewayChars_stop_in_body hstarted hrx h1 h2 hg, hend]
  case marker =>
    rw [exec, execFaultyFrame, gatewayChars_cons, gatewayChar_marker hstarted hrx, gatewayChars_cons,
      gatewayChar_stop_after_marker (by exact hstarted) rfl, gatewayChars_nil]
    exact congrArg _ (Ready.hunting hs)
  case gap => rw [exec, execGatewayGapExpiry, gatewayGap_body, hend]
  case gap_marker => rw [exec, execGatewayGapExpiry, gatewayGap_marker, Ready.hunting hs]
  case gap_outside => rw [exec, execGatewayGapExpiry, gatewayGap_hunting hrx]

/-- Settles O9: whatever ends a frame in flight, its end is the one act on the busy-reply slot. -/
theorem framesInFlightMeetTheBusySlot : Obligations.FramesInFlightMeetTheBusySlot := by
  intro s hs
  have ⟨hstarted, hbusy, hrx, hgap⟩ := hs
  have hself : s.hunting = s := State.hunting_eq_self hrx hgap
  refine ⟨fun i code args hi ha => ⟨?good, ?row⟩, fun body crc h1 h2 hcrc hne => ?crc, fun gap len got => ?gap⟩
  case good =>
    rw [exec_frame_busy hi ha hs, busyFrame_eq]
    rfl
  case row =>
    rw [exec_frame hi, gatewayRow_of_fits ha]
    rfl
  case crc =>
    rw [exec, execBusyReply, gatewayChars_wrong_crc hstarted hrx h1 h2 hcrc hne, hself,
      frameEnds_of_inFlight hbusy, busyFrame_eq]
    rfl
  case gap =>
    rw [exec, execGatewayGapExpiry, gatewayGap_body, hself, frameEnds_of_inFlight hbusy, busyFrame_eq]
    rfl

/-! ## The transmitter -/

/-- Settles O10: the frame that has been sent, its status and the slot decide what follows. -/
theorem sentFramesFreeTheLink : Obligations.SentFramesFreeTheLink := by
  intro s r
  simp only [exec, execGatewayTxDone]
  refine ⟨fun hr hb hslot => ?idle, fun code hr hb hslot => ?busy, fun hr hb => ?sent, fun hr => ?nothing⟩
  case idle => simp only [gatewaySent, hr, if_neg hb, hslot]
  case busy =>
    simp only [gatewaySent, hr, if_neg hb]
    split
    · rename_i code' hcode
      cases hslot.symm.trans hcode
      rfl
    · rename_i hnone
      cases hslot.symm.trans hnone
  case sent => simp only [gatewaySent, hr, if_pos hb]
  case nothing =>
    rw [gatewaySent]
    split
    · rename_i q hq
      exact absurd hq (hr q)
    · rfl

end Sys2Proof.Machine
end

section
/-! PROOF. Frames: which blocks the notices, the arbiter, the stations and the gateway's commands can touch. -/

namespace Sys2Proof.Machine

/-! ## The notices touch the channels -/

/-- The state `t` differs from `s` in the channel records alone. -/
def ChannelsOnly (s t : State) : Prop := t = { s with channelA := t.channelA, channelB := t.channelB }

theorem ChannelsOnly.refl (s : State) : ChannelsOnly s s := rfl

theorem ChannelsOnly.trans {s t u : State} (h1 : ChannelsOnly s t) (h2 : ChannelsOnly t u) : ChannelsOnly s u := by
  unfold ChannelsOnly at *
  rw [h2, h1]

theorem channelsOnly_setChannel (c : ChannelId) (ch : Channel) (s : State) : ChannelsOnly s (s.setChannel c ch) := by
  cases c <;> rfl

theorem channelsOnly_modChannel (c : ChannelId) (f : Channel → Channel) (s : State) :
    ChannelsOnly s (s.modChannel c f) := channelsOnly_setChannel c _ s

theorem channelsOnly_recompute (c : ChannelId) (s : State) : ChannelsOnly s (recompute c s) :=
  channelsOnly_modChannel c _ s

theorem channelsOnly_orderNoticeAt (c : ChannelId) (s : State) : ChannelsOnly s (orderNoticeAt c s) := by
  unfold orderNoticeAt
  split
  · exact ChannelsOnly.refl s
  · dsimp only
    split
    · exact (channelsOnly_modChannel c _ s).trans (channelsOnly_recompute c _)
    · exact ChannelsOnly.refl s

theorem channelsOnly_orderNotice (s : State) : ChannelsOnly s (orderNotice s) :=
  (channelsOnly_orderNoticeAt .a s).trans (channelsOnly_orderNoticeAt .b _)

theorem channelsOnly_spliceNoticeAt (c : ChannelId) (id k m added : Nat) (s : State) :
    ChannelsOnly s (spliceNoticeAt c id k m added s) := by
  unfold spliceNoticeAt
  split
  · split
    · dsimp only
      split
      · exact ((channelsOnly_modChannel c _ s).trans (channelsOnly_modChannel c _ _)).trans
          (channelsOnly_recompute c _)
      · exact channelsOnly_modChannel c _ s
    · exact ChannelsOnly.refl s
  · exact ChannelsOnly.refl s

theorem channelsOnly_geometryAdjust (c : ChannelId) (s : State) : ChannelsOnly s (geometryAdjust c s) := by
  unfold geometryAdjust
  dsimp only
  split
  · split
    · split
      · exact channelsOnly_modChannel c _ s
      · split
        · exact channelsOnly_modChannel c _ s
        · exact ChannelsOnly.refl s
    · exact ChannelsOnly.refl s
  · exact ChannelsOnly.refl s

theorem channelsOnly_markPress (c : ChannelId) (s : State) : ChannelsOnly s (markPress c s) := by
  unfold markPress
  split
  · exact ChannelsOnly.refl s
  · split
    · exact ChannelsOnly.refl s
    · exact channelsOnly_modChannel c _ s

theorem ChannelsOnly.movesOnly {s t : State} (h : ChannelsOnly s t) : MovesOnly s t := by
  unfold ChannelsOnly at h
  unfold MovesOnly
  rw [h]

/-! ## The arbiter touches the stations, the arbitration records and the channels -/

/-- The state `t` differs from `s` in the stations, the arbitration records and the channel records alone. -/
def ArbitersOnly (s t : State) : Prop :=
  t = { s with
    stations := t.stations
    arbiterA := t.arbiterA
    arbiterB := t.arbiterB
    channelA := t.channelA
    channelB := t.channelB }

theorem ArbitersOnly.refl (s : State) : ArbitersOnly s s := rfl

theorem ArbitersOnly.trans {s t u : State} (h1 : ArbitersOnly s t) (h2 : ArbitersOnly t u) : ArbitersOnly s u := by
  unfold ArbitersOnly at *
  rw [h2, h1]

theorem ChannelsOnly.arbitersOnly {s t : State} (h : ChannelsOnly s t) : ArbitersOnly s t := by
  unfold ChannelsOnly at h
  unfold ArbitersOnly
  rw [h]

theorem arbitersOnly_modArbiter (c : ChannelId) (f : Arbitration → Arbitration) (s : State) :
    ArbitersOnly s (s.modArbiter c f) := by cases c <;> rfl

theorem arbitersOnly_modStation (p : Fin 4) (f : Station → Station) (s : State) : ArbitersOnly s (s.modStation p f) :=
  rfl

theorem arbitersOnly_becomeOwner (c : ChannelId) (p : Fin 4) (s : State) : ArbitersOnly s (becomeOwner c p s) :=
  ((arbitersOnly_modArbiter c _ s).trans (arbitersOnly_modStation p _ _)).trans
    ((channelsOnly_modChannel c _ _).trans (channelsOnly_recompute c _)).arbitersOnly

theorem arbitersOnly_leaveWaiting (c : ChannelId) (p : Fin 4) (s : State) : ArbitersOnly s (leaveWaiting c p s) :=
  arbitersOnly_modArbiter c _ s

theorem arbitersOnly_joinWaiting (c : ChannelId) (p : Fin 4) (s : State) : ArbitersOnly s (joinWaiting c p s) := by
  unfold joinWaiting
  split
  · exact ArbitersOnly.refl s
  · exact (arbitersOnly_modArbiter c _ s).trans (arbitersOnly_modStation p _ _)

theorem arbitersOnly_clearMarks (c : ChannelId) (s : State) : ArbitersOnly s (clearMarks c s) := rfl

theorem arbitersOnly_depart (c : ChannelId) (p : Fin 4) (lost : Bool) (s : State) :
    ArbitersOnly s (depart c p lost s) := by
  have h1 := (arbitersOnly_modStation p (fun st => { st with takeLatch := false }) s).trans
    (arbitersOnly_modArbiter c (fun a => { a with owner := none }) _)
  unfold depart
  dsimp only
  split <;> split
  · exact (h1.trans (arbitersOnly_becomeOwner c _ _)).trans (arbitersOnly_modArbiter c _ _)
  · exact (h1.trans ((arbitersOnly_modArbiter c _ _).trans (arbitersOnly_clearMarks c _))).trans
      (((channelsOnly_modChannel c _ _).trans (channelsOnly_recompute c _)).arbitersOnly.trans
        (arbitersOnly_modArbiter c _ _))
  · exact h1.trans (arbitersOnly_becomeOwner c _ _)
  · exact (h1.trans ((arbitersOnly_modArbiter c _ _).trans (arbitersOnly_clearMarks c _))).trans
      ((channelsOnly_modChannel c _ _).trans (channelsOnly_recompute c _)).arbitersOnly

theorem arbitersOnly_claim (c : ChannelId) (p : Fin 4) (take : Bool) (s : State) :
    ArbitersOnly s (claim c p take s) := by
  unfold claim
  split
  · exact arbitersOnly_becomeOwner c p s
  · dsimp only
    split
    · exact (arbitersOnly_becomeOwner c p s).trans (arbitersOnly_modStation _ _ _)
    · split
      · exact arbitersOnly_becomeOwner c p s
      · exact arbitersOnly_joinWaiting c p s

theorem arbitersOnly_settle (p : Fin 4) (d j : Int) (take release : Bool) (s : State) :
    ArbitersOnly s (settle p d j take release s) := by
  unfold settle
  dsimp only
  refine (arbitersOnly_modStation p (fun st => { st with
    held := some d
    takeLatch := latchAfter (s.station p).role take release (s.station p).takeLatch }) s).trans ?_
  split
  · split
    · exact (arbitersOnly_depart _ p true _).trans (arbitersOnly_leaveWaiting _ p _)
    · split
      · exact arbitersOnly_modArbiter _ _ _
      · exact ArbitersOnly.refl _
  · split
    · exact arbitersOnly_claim _ p _ _
    · exact arbitersOnly_leaveWaiting _ p _

theorem arbitersOnly_leaveActive (p : Fin 4) (lost : Bool) (s : State) : ArbitersOnly s (leaveActive p lost s) := by
  unfold leaveActive
  dsimp only
  refine (arbitersOnly_modStation p (fun st => { st with takeLatch := false, overridden := false }) s).trans ?_
  split
  · exact arbitersOnly_depart _ p lost _
  · exact arbitersOnly_leaveWaiting _ p _

theorem arbitersOnly_forgetLoser (p : Fin 4) (s : State) : ArbitersOnly s (forgetLoser p s) :=
  (arbitersOnly_modArbiter .a _ s).trans (arbitersOnly_modArbiter .b _ _)

theorem arbitersOnly_reconfigure (p : Fin 4) (f : StationFields) (s : State) : ArbitersOnly s (reconfigure p f s) :=
  ((arbitersOnly_leaveActive p false s).trans (arbitersOnly_forgetLoser p _)).trans (arbitersOnly_modStation p _ _)

theorem arbitersOnly_lapse (p : Fin 4) (s : State) : ArbitersOnly s (lapse p s) := by
  unfold lapse
  split
  · exact ArbitersOnly.refl s
  · exact (arbitersOnly_modStation p _ s).trans (arbitersOnly_leaveActive p true _)

/-! ## The link under leaves and kills -/

theorem ChannelsOnly.link {s t : State} (h : ChannelsOnly s t) : t.link = s.link := by rw [h]

theorem ArbitersOnly.link {s t : State} (h : ArbitersOnly s t) : t.link = s.link := by rw [h]

/-- A retirement leaves an idle link as it is. -/
theorem retire_link_idle (id : Nat) {s : State} (h : s.link.state = .idle) : (retire id s).link = s.link := by
  rcases retire_link id s with hl | ⟨hexec, -⟩
  · exact hl
  · cases h.symm.trans hexec

theorem kill_link_idle (id : Nat) {s : State} (h : s.link.state = .idle) : (kill id s).1.link = s.link := by
  cases hs : s.story? id with
  | none => simp only [kill, hs]
  | some st =>
    rcases kill_cases hs with ⟨-, e⟩ | ⟨-, -, e⟩ | ⟨-, -, e⟩ <;> rw [e]
    · exact retire_link_idle id h
    · rfl

theorem leave_link_idle (c : ChannelId) (id : Nat) (kind : LeaveKind) {s : State} (h : s.link.state = .idle) :
    (leave c id kind s).link = s.link := by
  cases hs : s.story? id with
  | none => rw [leave_absent hs]
  | some st =>
    rcases leave_cases hs c kind with ⟨_, _, e⟩ | ⟨_, _, e⟩ | ⟨_, _, _, _, _, e⟩ | ⟨_, _, e⟩ <;> rw [e]
    · exact retire_link_idle id h
    · rfl
    · exact kill_link_idle id h
    · rfl

theorem unload_link_idle (c : ChannelId) {s : State} (h : s.link.state = .idle) : (unload c s).link = s.link := by
  unfold unload
  dsimp only
  split
  · rfl
  · split
    · rw [State.modChannel_link, leave_link_idle c _ _ h]
    · rw [State.modChannel_link]

/-! ## How a command of the catalogue ends -/

/-- The ways in which a command that an idle link dispatches can end (R168, R170): refused with the state as it was, taken
and answered OK, or, for STORY CHECK, RUNDOWN CLEAR and GEOMETRY SET, executing. The link waits for the end. -/
def Ends (code : Byte) (s : State) (r : State × Taken) : Prop :=
  (∃ status, status ≠ .ok ∧ r = refuse status s)
    ∨ (∃ payload t, r = okay payload t ∧ t.link = s.link)
    ∨ (∃ op t, r = (t, .running op) ∧ t.link = s.link ∧ code.toNat ∈ [0x1B, 0x21, 0x60])

theorem ends_refuse {status : Status} (h : status ≠ .ok) (code : Byte) (s : State) :
    Ends code s (refuse status s) := .inl ⟨status, h, rfl⟩

theorem ends_okay {s t : State} (h : t.link = s.link) (code : Byte) (payload : Payload) :
    Ends code s (okay payload t) := .inr (.inl ⟨payload, t, rfl, h⟩)

theorem ends_onChannel {code : Byte} {s : State} {f : ChannelId → State → State × Taken} (n : Nat)
    (h : ∀ c, Ends code s (f c s)) : Ends code s (onChannel n f s) := by
  unfold onChannel
  split
  · exact ends_refuse (by decide) code s
  · exact h _

theorem ends_onPort {code : Byte} {s : State} {f : Fin 4 → State → State × Taken} (n : Nat)
    (h : ∀ p, Ends code s (f p s)) : Ends code s (onPort n f s) := by
  unfold onPort
  split
  · exact ends_refuse (by decide) code s
  · exact h _

theorem ends_storyNew (id anchor : Nat) (s : State) : Ends 0x10 s (cmdStoryNew id anchor s) := by
  unfold cmdStoryNew
  split
  · exact ends_refuse (by decide) _ s
  · split
    · exact ends_refuse (by decide) _ s
    · split
      · exact ends_refuse (by decide) _ s
      · split
        · exact ends_refuse (by decide) _ s
        · exact ends_okay (by exact (channelsOnly_orderNotice _).link) _ _

theorem ends_storyMove (id anchor : Nat) (s : State) : Ends 0x11 s (cmdStoryMove id anchor s) := by
  unfold cmdStoryMove
  split
  · exact ends_refuse (by decide) _ s
  · split
    · exact ends_refuse (by decide) _ s
    · split
      · exact ends_refuse (by decide) _ s
      · exact ends_okay (by exact (channelsOnly_orderNotice _).link) _ _

theorem ends_storyFloat (id : Nat) (s : State) : Ends 0x12 s (cmdStoryFloat id s) := by
  unfold cmdStoryFloat
  split
  · exact ends_refuse (by decide) _ s
  · split
    · exact ends_refuse (by decide) _ s
    · split
      · exact ends_okay (by rfl) _ _
      · exact ends_okay (by rfl) _ _

theorem ends_storyRestore (id : Nat) (s : State) : Ends 0x13 s (cmdStoryRestore id s) := by
  unfold cmdStoryRestore
  split
  · exact ends_refuse (by decide) _ s
  · split
    · exact ends_refuse (by decide) _ s
    · split
      · exact ends_okay (by exact (channelsOnly_orderNotice _).link) _ _
      · exact ends_okay (by rfl) _ _

theorem ends_storyKill (id : Nat) {s : State} (h : s.link.state = .idle) : Ends 0x14 s (cmdStoryKill id s) := by
  unfold cmdStoryKill
  split
  · exact ends_refuse (by decide) _ s
  · exact ends_okay (kill_link_idle id h) _ _

theorem ends_storyProps (id : Nat) (slug : Option (List Byte)) (p auto : Option Nat) (s : State) :
    Ends 0x15 s (cmdStoryProps id slug p auto s) := by
  unfold cmdStoryProps
  split
  · exact ends_refuse (by decide) _ s
  · iterate 5
      split
      · exact ends_refuse (by decide) _ s
    exact ends_okay (by rfl) _ _

theorem ends_storyLock (id level : Nat) (s : State) : Ends 0x16 s (cmdStoryLock id level s) := by
  unfold cmdStoryLock
  split
  · exact ends_refuse (by decide) _ s
  · split
    · exact ends_refuse (by decide) _ s
    · split
      · exact ends_refuse (by decide) _ s
      · exact ends_okay (by rfl) _ _

theorem ends_storyUnlock (id : Nat) (s : State) : Ends 0x17 s (cmdStoryUnlock id s) := by
  unfold cmdStoryUnlock
  split
  · exact ends_refuse (by decide) _ s
  · split
    · exact ends_refuse (by decide) _ s
    · exact ends_okay (by rfl) _ _

theorem ends_storySplice (id k m : Nat) (new : List RawLine) (s : State) :
    Ends 0x18 s (cmdStorySplice id k m new s) := by
  unfold cmdStorySplice
  split
  · exact ends_refuse (by decide) _ s
  · dsimp only
    split
    · split
      · exact ends_refuse (by decide) _ s
      · iterate 5
          split
          · exact ends_refuse (by decide) _ s
        refine ends_okay ?_ _ _
        exact ((channelsOnly_spliceNoticeAt .a id k m new.length _).trans
          (channelsOnly_spliceNoticeAt .b id k m new.length _)).link
    · exact ends_refuse (by decide) _ s

theorem ends_storyRead (id first count : Nat) (s : State) : Ends 0x19 s (cmdStoryRead id first count s) := by
  unfold cmdStoryRead
  split
  · exact ends_refuse (by decide) _ s
  · split
    · exact ends_refuse (by decide) _ s
    · exact ends_okay (by rfl) _ _

theorem ends_storyInfo (id : Nat) (s : State) : Ends 0x1A s (cmdStoryInfo id s) := by
  unfold cmdStoryInfo
  split
  · exact ends_refuse (by decide) _ s
  · exact ends_okay (by rfl) _ _

theorem ends_storyCheck (id : Nat) (s : State) : Ends 0x1B s (cmdStoryCheck id s) := by
  unfold cmdStoryCheck
  split
  · exact ends_refuse (by decide) _ s
  · exact .inr (.inr ⟨_, _, rfl, rfl, by decide⟩)

theorem ends_orderList (after count : Nat) (s : State) : Ends 0x20 s (cmdOrderList after count s) := by
  unfold cmdOrderList
  split
  · exact ends_refuse (by decide) _ s
  · exact ends_okay (by rfl) _ _

theorem ends_rundownClear {s : State} (h : s.link.state = .idle) : Ends 0x21 s (cmdRundownClear s) := by
  refine .inr (.inr ⟨_, _, rfl, ?_, by decide⟩)
  have ha := unload_link_idle .a (s := { s with clearInProgress := true }) h
  rw [unload_link_idle .b (by rw [ha]; exact h), ha]

theorem ends_cuesRearm (id : Nat) (s : State) : Ends 0x22 s (cmdCuesRearm id s) := by
  unfold cmdCuesRearm
  split
  · exact ends_refuse (by decide) _ s
  · exact ends_okay (by rfl) _ _

theorem ends_loadChannel (id k : Nat) (c : ChannelId) {s : State} (h : s.link.state = .idle) :
    Ends 0x30 s (loadChannel id k c s) := by
  unfold loadChannel
  split
  · exact ends_refuse (by decide) _ s
  · split
    · exact ends_refuse (by decide) _ s
    · refine ends_okay ?_ _ _
      simp only [State.modChannel_link, atRest, enter, State.modStory_link, State.place_link]
      split
      · exact leave_link_idle c _ _ h
      · rfl

theorem ends_runChannel (c : ChannelId) (s : State) : Ends 0x31 s (runChannel c s) := by
  unfold runChannel
  split
  · exact ends_refuse (by decide) _ s
  · exact ends_okay (by rfl) _ _
  · exact ends_okay (by exact ((channelsOnly_modChannel c _ s).trans (channelsOnly_recompute c _)).link) _ _

theorem ends_parkChannel (c : ChannelId) (s : State) : Ends 0x32 s (parkChannel c s) := by
  unfold parkChannel
  split
  · exact ends_refuse (by decide) _ s
  · exact ends_okay (by rfl) _ _
  · exact ends_okay (by exact (channelsOnly_modChannel c _ s).link) _ _

theorem ends_tuneChannel (f : TuneFields) (c : ChannelId) (s : State) : Ends 0x34 s (tuneChannel f c s) := by
  unfold tuneChannel
  split
  · exact ends_refuse (by decide) _ s
  · split
    · exact ends_refuse (by decide) _ s
    · exact ends_okay (by exact ((channelsOnly_modChannel c _ s).trans (channelsOnly_recompute c _)).link) _ _

theorem ends_statusChannel (c : ChannelId) (s : State) : Ends 0x35 s (statusChannel c s) := by
  refine ends_okay ?_ _ _
  split <;> exact (channelsOnly_modChannel c _ s).link

theorem ends_setStation (f : StationFields) (p : Fin 4) (s : State) : Ends 0x40 s (setStation f p s) := by
  unfold setStation
  split
  · exact ends_refuse (by decide) _ s
  · refine ends_okay ?_ _ _
    split
    · exact (arbitersOnly_reconfigure p f _).link
    · rfl

theorem ends_setHead (ch : Nat) (h : Fin 4) (s : State) : Ends 0x48 s (setHead ch h s) := by
  unfold setHead
  split
  · exact ends_refuse (by decide) _ s
  · exact ends_okay (by rfl) _ _
  · exact ends_okay (by rfl) _ _

theorem ends_clockHold (s : State) : Ends 0x51 s (cmdClockHold s) := by
  unfold cmdClockHold
  split <;> exact ends_okay (by rfl) _ _

theorem ends_clockResume (s : State) : Ends 0x52 s (cmdClockResume s) := by
  unfold cmdClockResume
  split <;> exact ends_okay (by rfl) _ _

theorem ends_geometrySet (h : Heights) (s : State) : Ends 0x60 s (cmdGeometrySet h s) := by
  unfold cmdGeometrySet
  split
  · exact ends_refuse (by decide) _ s
  · exact .inr (.inr ⟨_, _, rfl, rfl, by decide⟩)

theorem ends_leadSet (ch : Nat) (s : State) : Ends 0x61 s (cmdLeadSet ch s) := by
  unfold cmdLeadSet
  split
  · exact ends_refuse (by decide) _ s
  · exact ends_okay (by rfl) _ _

theorem ends_cueOutputSet (out action : Nat) (width level : Option Nat) (s : State) :
    Ends 0x62 s (cmdCueOutputSet out action width level s) := by
  unfold cmdCueOutputSet
  split
  · exact ends_okay (by rfl) _ _
  · exact ends_refuse (by decide) _ s

/-- Every command of the catalogue ends in one of the three ways. -/
theorem ends_take (cmd : Command) {s : State} (h : s.link.state = .idle) : Ends cmd.code s (take cmd s) := by
  cases cmd with
  | storyNew id anchor => exact ends_storyNew id anchor s
  | storyMove id anchor => exact ends_storyMove id anchor s
  | storyFloat id => exact ends_storyFloat id s
  | storyRestore id => exact ends_storyRestore id s
  | storyKill id => exact ends_storyKill id h
  | storyProps id slug p auto => exact ends_storyProps id slug p auto s
  | storyLock id level => exact ends_storyLock id level s
  | storyUnlock id => exact ends_storyUnlock id s
  | storySplice id k m new => exact ends_storySplice id k m new s
  | storyRead id first count => exact ends_storyRead id first count s
  | storyInfo id => exact ends_storyInfo id s
  | storyCheck id => exact ends_storyCheck id s
  | orderList after count => exact ends_orderList after count s
  | rundownClear => exact ends_rundownClear h
  | cuesRearm id => exact ends_cuesRearm id s
  | channelLoad ch id k => exact ends_onChannel ch fun c => ends_loadChannel id k c h
  | channelRun ch => exact ends_onChannel ch fun c => ends_runChannel c s
  | channelPark ch => exact ends_onChannel ch fun c => ends_parkChannel c s
  | channelUnload ch => exact ends_onChannel (f := fun c s => okay .empty (unload c s)) ch fun c => ends_okay (unload_link_idle c h) _ _
  | channelTune ch f => exact ends_onChannel ch fun c => ends_tuneChannel f c s
  | channelStatus ch => exact ends_onChannel ch fun c => ends_statusChannel c s
  | stationSet st f => exact ends_onPort st fun p => ends_setStation f p s
  | stationStatus st => exact ends_onPort st fun p => ends_okay (by rfl) _ _
  | headSet hd ch => exact ends_onPort hd fun p => ends_setHead ch p s
  | headStatus hd => exact ends_onPort hd fun p => ends_okay (by rfl) _ _
  | clockSet v => exact ends_okay (by rfl) _ _
  | clockHold => exact ends_clockHold s
  | clockResume => exact ends_clockResume s
  | timingRead => exact ends_okay (by rfl) _ _
  | geometrySet ht => exact ends_geometrySet ht s
  | leadSet ch => exact ends_leadSet ch s
  | cueOutputSet out action width level => exact ends_cueOutputSet out action width level s
  | deviceStatus => exact ends_okay (by rfl) _ _
  | identify => exact ends_okay (by rfl) _ _

/-! ## The ending of a frame -/

/-- An ending of a frame as the newsroom computer sees it: one response that echoes the code, or a command executing. -/
def FrameEnded (code : Byte) (s t : State) : Prop :=
  t.link.slot = s.link.slot ∧ t.link.rx = .hunting ∧ t.link.gap = none ∧ t.link.rate = s.link.rate
    ∧ ((∃ r, t.link.state = .answering r ∧ r.echo = code
          ∧ (r.status ≠ .ok → r.payload = .empty ∧ t = { s with link := t.link }))
        ∨ (∃ op, t.link.state = .executing op ∧ code.toNat ∈ [0x1B, 0x21, 0x60]))

theorem frameEnded_refused {s : State} (hs : Ready s) (status : Status) (code : Byte) :
    FrameEnded code s (s.respond status code .empty) :=
  ⟨rfl, hs.2.2.1, hs.2.2.2, rfl, .inl ⟨_, rfl, rfl, fun _ => ⟨rfl, rfl⟩⟩⟩

theorem frameEnded_conclude {s : State} (hs : Ready s) {code : Byte} {r : State × Taken} (h : Ends code s r) :
    FrameEnded code s (conclude code r) := by
  obtain ⟨-, -, hrx, hgap⟩ := hs
  rcases h with ⟨status, -, rfl⟩ | ⟨payload, t, rfl, hlink⟩ | ⟨op, t, rfl, hlink, hcode⟩
  · exact ⟨rfl, hrx, hgap, rfl, .inl ⟨_, rfl, rfl, fun _ => ⟨rfl, rfl⟩⟩⟩
  · rw [conclude_okay]
    refine ⟨?_, ?_, ?_, ?_, .inl ⟨_, rfl, rfl, fun hne => absurd rfl hne⟩⟩ <;>
      simp only [State.respond_link, hlink, hrx, hgap]
  · rw [conclude_running]
    refine ⟨?_, ?_, ?_, ?_, .inr ⟨op, rfl, hcode⟩⟩ <;> simp only [hlink, hrx, hgap]

/-- Settles O11: an unknown code and a misfit are refused at once, and a command that is dispatched ends in one of its
three ways. -/
theorem everyFrameHasOneEnding : Obligations.EveryFrameHasOneEnding := by
  intro i code args s hi hs
  refine ⟨fun hlong => ?no_frame, fun ha => ?ending⟩
  case no_frame =>
    rw [exec_frame hi, gatewayRow, argsFit, if_neg (by simpa using hlong)]
  case ending =>
    rw [exec_frame_ready hi ha hs]
    cases hc : catalogue code with
    | none =>
      rw [handleFrame_unknown hc]
      exact ⟨_, rfl, frameEnded_refused hs _ code⟩
    | some read =>
      cases hr : read args with
      | none =>
        rw [handleFrame_length hc hr]
        exact ⟨_, rfl, frameEnded_refused hs _ code⟩
      | some cmd =>
        rw [handleFrame_command hc hr]
        obtain ⟨-, rfl, -⟩ := encodes_of_read hc hr
        exact ⟨_, rfl, frameEnded_conclude hs (ends_take cmd hs.2.1)⟩

end Sys2Proof.Machine
end

section
/-! PROOF. The induction over a step, packaged once: a property that each kind of event keeps is kept by every step. -/

namespace Sys2Proof.Machine

/-- The part after its gateway receiver has taken a character, before the end of a frame is handled. -/
def State.fed (s : State) (c : LineChar) : State :=
  { s with link := { s.link with rx := (s.link.rx.feed c).1, gap := (s.link.rx.feed c).1.gapTimer } }

/-- Each kind of event keeps the property `P` on a state of which `Q` holds. -/
structure Kept (Q P : State → Prop) : Prop where
  unqueue : ∀ s q, P s → P { s with pending := q }
  tick : ∀ s, Q s → P s → P (tick s)
  reset : ∀ s, P (resetPart s)
  startUp : ∀ s rate, Q s → P s → P (startUp rate s)
  fed : ∀ s c, Q s → P s → P (s.fed c)
  hunting : ∀ s, Q s → P s → P s.hunting
  slot : ∀ s code, Q s → P s → s.link.state ≠ .idle → P { s with link := { s.link with slot := some code } }
  misfit : ∀ s status code, Q s → P s → s.link.state = .idle → P (s.respond status code .empty)
  command : ∀ cmd s, cmd.fits → Q s → P s → s.link.state = .idle → P (conclude cmd.code (take cmd s))
  sent : ∀ s, Q s → P s → P (gatewaySent s)
  checked : ∀ s, Q s → P s → P (finishCheck s)
  cleared : ∀ s, Q s → P s → P (finishClear s)
  recomputed : ∀ s, Q s → P s → P (finishGeometry s)
  channelStep : ∀ s c, Q s → P s → P (channelStep c s)
  second : ∀ s, Q s → P s → P (countSecond s)
  pulse : ∀ s o, Q s → P s → P (s.modOutput o CueOutput.expire)
  stationChar : ∀ s p c, Q s → P s → P (stationChar p c s)
  stationGap : ∀ s p, Q s → P s → P (stationGap p s)
  lapse : ∀ s p, Q s → P s → P (lapse p s)
  answerSent : ∀ s p, Q s → P s → P (s.modStation p Station.answerSent)
  headChar : ∀ s h c, Q s → P s → P (headChar h c s)
  headGap : ∀ s h, Q s → P s → P (headGap h s)
  headSent : ∀ s h, Q s → P s → P (headSent h s)

/-- The property that every state has. -/
abbrev Always : State → Prop := fun _ => True

namespace Kept

variable {Q P R : State → Prop}

/-- What is kept on more states is kept on fewer. -/
theorem mono (hP : Kept Q P) (h : ∀ s, R s → Q s) : Kept R P where
  unqueue := hP.unqueue
  tick s r := hP.tick s (h s r)
  reset := hP.reset
  startUp s rate r := hP.startUp s rate (h s r)
  fed s c r := hP.fed s c (h s r)
  hunting s r := hP.hunting s (h s r)
  slot s code r := hP.slot s code (h s r)
  misfit s status code r := hP.misfit s status code (h s r)
  command cmd s hf r := hP.command cmd s hf (h s r)
  sent s r := hP.sent s (h s r)
  checked s r := hP.checked s (h s r)
  cleared s r := hP.cleared s (h s r)
  recomputed s r := hP.recomputed s (h s r)
  channelStep s c r := hP.channelStep s c (h s r)
  second s r := hP.second s (h s r)
  pulse s o r := hP.pulse s o (h s r)
  stationChar s p c r := hP.stationChar s p c (h s r)
  stationGap s p r := hP.stationGap s p (h s r)
  lapse s p r := hP.lapse s p (h s r)
  answerSent s p r := hP.answerSent s p (h s r)
  headChar s hd c r := hP.headChar s hd c (h s r)
  headGap s hd r := hP.headGap s hd (h s r)
  headSent s hd r := hP.headSent s hd (h s r)

/-- A property kept where another one holds is kept together with it. -/
theorem and (hQ : Kept R Q) (hP : Kept (fun s => R s ∧ Q s) P) : Kept R (fun s => Q s ∧ P s) where
  unqueue s q h := ⟨hQ.unqueue s q h.1, hP.unqueue s q h.2⟩
  tick s r h := ⟨hQ.tick s r h.1, hP.tick s ⟨r, h.1⟩ h.2⟩
  reset s := ⟨hQ.reset s, hP.reset s⟩
  startUp s rate r h := ⟨hQ.startUp s rate r h.1, hP.startUp s rate ⟨r, h.1⟩ h.2⟩
  fed s c r h := ⟨hQ.fed s c r h.1, hP.fed s c ⟨r, h.1⟩ h.2⟩
  hunting s r h := ⟨hQ.hunting s r h.1, hP.hunting s ⟨r, h.1⟩ h.2⟩
  slot s code r h hs := ⟨hQ.slot s code r h.1 hs, hP.slot s code ⟨r, h.1⟩ h.2 hs⟩
  misfit s status code r h hs := ⟨hQ.misfit s status code r h.1 hs, hP.misfit s status code ⟨r, h.1⟩ h.2 hs⟩
  command cmd s hf r h hs := ⟨hQ.command cmd s hf r h.1 hs, hP.command cmd s hf ⟨r, h.1⟩ h.2 hs⟩
  sent s r h := ⟨hQ.sent s r h.1, hP.sent s ⟨r, h.1⟩ h.2⟩
  checked s r h := ⟨hQ.checked s r h.1, hP.checked s ⟨r, h.1⟩ h.2⟩
  cleared s r h := ⟨hQ.cleared s r h.1, hP.cleared s ⟨r, h.1⟩ h.2⟩
  recomputed s r h := ⟨hQ.recomputed s r h.1, hP.recomputed s ⟨r, h.1⟩ h.2⟩
  channelStep s c r h := ⟨hQ.channelStep s c r h.1, hP.channelStep s c ⟨r, h.1⟩ h.2⟩
  second s r h := ⟨hQ.second s r h.1, hP.second s ⟨r, h.1⟩ h.2⟩
  pulse s o r h := ⟨hQ.pulse s o r h.1, hP.pulse s o ⟨r, h.1⟩ h.2⟩
  stationChar s p c r h := ⟨hQ.stationChar s p c r h.1, hP.stationChar s p c ⟨r, h.1⟩ h.2⟩
  stationGap s p r h := ⟨hQ.stationGap s p r h.1, hP.stationGap s p ⟨r, h.1⟩ h.2⟩
  lapse s p r h := ⟨hQ.lapse s p r h.1, hP.lapse s p ⟨r, h.1⟩ h.2⟩
  answerSent s p r h := ⟨hQ.answerSent s p r h.1, hP.answerSent s p ⟨r, h.1⟩ h.2⟩
  headChar s hd c r h := ⟨hQ.headChar s hd c r h.1, hP.headChar s hd c ⟨r, h.1⟩ h.2⟩
  headGap s hd r h := ⟨hQ.headGap s hd r h.1, hP.headGap s hd ⟨r, h.1⟩ h.2⟩
  headSent s hd r h := ⟨hQ.headSent s hd r h.1, hP.headSent s hd ⟨r, h.1⟩ h.2⟩

/-! ## From the events to the step -/

theorem frameEnds (hP : Kept Always P) (body : Option (List Byte)) {s : State} (h : P s) : P (frameEnds body s) := by
  unfold Machine.frameEnds
  split
  case isTrue hidle =>
    unfold handleFrame
    split
    · split
      · exact hP.misfit s _ _ trivial h hidle
      · rename_i code args _ read hc
        split
        · exact hP.misfit s _ _ trivial h hidle
        · rename_i cmd hr
          obtain ⟨hfits, rfl, -⟩ := encodes_of_read hc hr
          exact hP.command cmd s hfits trivial h hidle
    · exact hP.misfit s _ _ trivial h hidle
  case isFalse hbusy =>
    rw [busyFrame_eq]
    split
    · exact hP.slot s _ trivial h hbusy
    · exact h

theorem gatewayChar (hP : Kept Always P) (c : LineChar) {s : State} (h : P s) : P (gatewayChar c s) := by
  have hfed : P (s.fed c) := hP.fed s c trivial h
  unfold Machine.gatewayChar
  split
  · exact h
  · dsimp only
    split
    · exact hfed
    · exact hP.frameEnds none hfed
    · exact hP.frameEnds _ hfed

theorem gatewayChars (hP : Kept Always P) (cs : List LineChar) {s : State} (h : P s) : P (gatewayChars cs s) := by
  induction cs generalizing s with
  | nil => exact h
  | cons c cs ih => exact ih (hP.gatewayChar c h)

theorem gatewayRow (hP : Kept Always P) {code : Byte} {args : List Byte} {s t : State}
    (hst : gatewayRow code args s = .next t) (h : P s) : P t := by
  unfold Machine.gatewayRow at hst
  split at hst
  · cases hst
    exact hP.gatewayChars _ h
  · cases hst

theorem gatewayGap (hP : Kept Always P) {s : State} (h : P s) : P (gatewayGap s) := by
  have hhunting : P s.hunting := hP.hunting s trivial h
  unfold Machine.gatewayGap
  dsimp only
  split
  · exact h
  · exact hhunting
  · exact hP.frameEnds none hhunting

theorem stationChars (hP : Kept Always P) (p : Fin 4) (cs : List Byte) {s : State} (h : P s) :
    P (stationChars p cs s) := by
  induction cs generalizing s with
  | nil => exact h
  | cons c cs ih => exact ih (hP.stationChar s p _ trivial h)

theorem headChars (hP : Kept Always P) (hd : Fin 4) (cs : List Byte) {s : State} (h : P s) :
    P (headChars hd cs s) := by
  induction cs generalizing s with
  | nil => exact h
  | cons c cs ih => exact ih (hP.headChar s hd _ trivial h)

/-- Every row of the table keeps the property. -/
theorem exec (hP : Kept Always P) {i : Instr} {s t : State} (hst : exec i s = .next t) (h : P s) : P t := by
  cases hf : frameOf i with
  | some frame => exact hP.gatewayRow ((exec_frame hf s).symm.trans hst) h
  | none =>
    cases i <;> simp only [frameOf, reduceCtorEq] at hf <;> injection hst with hst
    case powerOnReset => exact hst ▸ hP.reset s
    case resetAsserted => exact hst ▸ hP.reset s
    case startUpComplete rate => exact hst ▸ hP.startUp s rate trivial h
    case storyCheckCompletion => exact hst ▸ hP.checked s trivial h
    case rundownClearCompletion => exact hst ▸ hP.cleared s trivial h
    case geometryRecomputeCompletion => exact hst ▸ hP.recomputed s trivial h
    case faultyFrame chars => exact hst ▸ hP.gatewayChars chars h
    case gatewayGapExpiry => exact hst ▸ hP.gatewayGap h
    case busyReply chars => exact hst ▸ hP.gatewayChars chars h
    case gatewayTxDone => exact hst ▸ hP.sent s trivial h
    case channelStepExpiry c => exact hst ▸ hP.channelStep s c trivial h
    case secondExpiry => exact hst ▸ hP.second s trivial h
    case stationReport p chars => exact hst ▸ hP.stationChars p chars h
    case stationFramingFault p c => exact hst ▸ hP.stationChar s p c trivial h
    case stationGapExpiry p => exact hst ▸ hP.stationGap s p trivial h
    case lapseExpiry p => exact hst ▸ hP.lapse s p trivial h
    case answerTxDone p => exact hst ▸ hP.answerSent s p trivial h
    case cuePulseExpiry o => exact hst ▸ hP.pulse s o trivial h
    case fetch hd chars => exact hst ▸ hP.headChars hd chars h
    case headFramingFault hd c => exact hst ▸ hP.headChar s hd c trivial h
    case headGapExpiry hd => exact hst ▸ hP.headGap s hd trivial h
    case headTxDone hd => exact hst ▸ hP.headSent s hd trivial h

/-- Every step keeps the property. -/
theorem step (hP : Kept Always P) {s t : State} (hst : step s = .next t) (h : P s) : P t := by
  cases hq : s.pending with
  | nil =>
    rw [step_of_idle hq] at hst
    cases hst
    exact hP.tick s trivial h
  | cons c rest =>
    rw [step_of_pending hq] at hst
    exact hP.exec hst (hP.unqueue s rest h)

end Kept

end Sys2Proof.Machine
end

section
/-! PROOF. What the motions of a channel, the stations and the arbiter are made of: a property that a handful of small acts
keep is kept by every step update, jog, press, REPORT and lapse. -/

namespace Sys2Proof.Machine

/-- The record `ch` differs from a channel's own at most where a motion writes: state and tuning stay, S is kept, zeroed or
ramped, T is kept, zeroed or recomputed (R51, R52). -/
def Tuned (s : State) (c : ChannelId) (ch : Channel) : Prop :=
  ch.state = (s.channel c).state ∧ ch.tuning = (s.channel c).tuning
    ∧ (ch.speed = (s.channel c).speed ∨ ch.speed = 0
        ∨ ch.speed = ramp (s.channel c).tuning (s.channel c).speed (s.channel c).target)
    ∧ (ch.target = (s.channel c).target ∨ ch.target = 0 ∨ ch.target = targetFor s c)

/-- A channel that has been unloaded (R48). -/
def Emptied (s : State) (c : ChannelId) (ch : Channel) : Prop :=
  ch.state = .unloaded ∧ ch.tuning = (s.channel c).tuning ∧ ch.speed = 0 ∧ ch.target = 0

/-- A deflection as a REPORT gives it (R125). -/
abbrev DeflectionInRange (d : Int) : Prop := -127 ≤ d ∧ d ≤ 127

/-- R125: D is clamped as it is received. -/
theorem toLevels_inRange {body : List Byte} {l : Levels} (h : toLevels body = some l) :
    DeflectionInRange l.d := by
  unfold toLevels at h
  split at h
  · rename_i d j b
    have hlo := BitVec.le_toInt d
    have hhi := BitVec.toInt_lt (x := d)
    split at h
    · cases h
    · cases h
      exact ⟨Int.le_max_left _ _, by simp only; omega⟩
  · cases h

/-- The head ports do not bear on the property. -/
def Headless (P : State → Prop) : Prop := ∀ s v, P s → P { s with heads := v }

/-- The record `ch` keeps a channel's read point and sets neither END nor START. -/
def Unmoved (s : State) (c : ChannelId) (ch : Channel) : Prop :=
  ch.readPoint = (s.channel c).readPoint ∧ (ch.endFlag = true → (s.channel c).endFlag = true)
    ∧ (ch.startFlag = true → (s.channel c).startFlag = true)

/-- The acts of the arbiter, of the stations and of a channel at one place keep the property. -/
structure Calm (P : State → Prop) : Prop where
  station : ∀ s p (f : Station → Station), P s →
    (∀ d ∈ (f (s.station p)).held, (s.station p).held = some d ∨ DeflectionInRange d) → P (s.modStation p f)
  marks : ∀ s c, P s → P (clearMarks c s)
  arbiter : ∀ s c r, P s → P (s.setArbiter c r)
  calm : ∀ s c ch, P s → Tuned s c ch → Unmoved s c ch → P (s.setChannel c ch)

/-- The movements of a channel keep the property as well. -/
structure Moves (P : State → Prop) : Prop where
  calm : Calm P
  next : ∀ s c, P s → P (nextPress c s)
  prev : ∀ s c, P s → P (prevPress c s)
  jog : ∀ s c j, P s → P (jog c j s)
  ramp : ∀ s c, P s → P (rampAndMove c s)

/-- Each of the small acts of which motions, presses, REPORTs and lapses are made keeps the property by itself. -/
structure Soft (P : State → Prop) : Prop where
  station : ∀ s p (f : Station → Station), P s →
    (∀ d ∈ (f (s.station p)).held, (s.station p).held = some d ∨ DeflectionInRange d) → P (s.modStation p f)
  marks : ∀ s c, P s → P (clearMarks c s)
  arbiter : ∀ s c r, P s → P (s.setArbiter c r)
  tuned : ∀ s c ch, P s → Tuned s c ch → P (s.setChannel c ch)
  emptied : ∀ s c ch, P s → Emptied s c ch → P (s.setChannel c ch)
  left : ∀ s c id kind, P s → P (leave c id kind s)
  entered : ∀ s c id, P s → P (s.modStory id (fun st => st.setOpen c true))
  reported : ∀ s c id k, P s → P (reportLine c id k s)

namespace Calm

variable {P : State → Prop}

/-! ## A channel at one place -/

/-- A write to a channel that keeps its state, tuning, read point, S and T, and sets neither END nor START. -/
theorem flags (hP : Calm P) {s : State} (h : P s) (c : ChannelId) {f : Channel → Channel}
    (hstate : (f (s.channel c)).state = (s.channel c).state) (htuning : (f (s.channel c)).tuning = (s.channel c).tuning)
    (hspeed : (f (s.channel c)).speed = (s.channel c).speed ∨ (f (s.channel c)).speed = 0)
    (htarget : (f (s.channel c)).target = (s.channel c).target ∨ (f (s.channel c)).target = 0)
    (hpoint : (f (s.channel c)).readPoint = (s.channel c).readPoint)
    (hend : (f (s.channel c)).endFlag = true → (s.channel c).endFlag = true)
    (hstart : (f (s.channel c)).startFlag = true → (s.channel c).startFlag = true) : P (s.modChannel c f) :=
  hP.calm s c _ h ⟨hstate, htuning, hspeed.imp_right .inl, htarget.imp_right .inl⟩ ⟨hpoint, hend, hstart⟩

theorem recompute (hP : Calm P) {s : State} (h : P s) (c : ChannelId) : P (recompute c s) :=
  hP.calm s c _ h ⟨rfl, rfl, .inl rfl, .inr (.inr rfl)⟩ ⟨rfl, id, id⟩

theorem movedForward (hP : Calm P) {s : State} (h : P s) (c : ChannelId) : P (movedForward c s) := by
  unfold Machine.movedForward
  split
  · exact hP.recompute (hP.flags h c rfl rfl (.inl rfl) (.inl rfl) rfl id (fun hf => absurd hf Bool.false_ne_true)) c
  · exact h

theorem movedBackward (hP : Calm P) {s : State} (h : P s) (c : ChannelId) : P (movedBackward c s) := by
  unfold Machine.movedBackward
  split
  · exact hP.recompute (hP.flags h c rfl rfl (.inl rfl) (.inl rfl) rfl (fun hf => absurd hf Bool.false_ne_true) id) c
  · exact h

theorem atRest (hP : Calm P) {s : State} (h : P s) (c : ChannelId) : P (atRest c s) :=
  hP.flags h c rfl rfl (.inr rfl) (.inr rfl) rfl (fun hf => absurd hf Bool.false_ne_true) (fun hf => absurd hf Bool.false_ne_true)

theorem pausePress (hP : Calm P) {s : State} (h : P s) (c : ChannelId) : P (pausePress c s) :=
  hP.recompute (hP.flags h c rfl rfl (.inl rfl) (.inl rfl) rfl id id) c

theorem markPress (hP : Calm P) {s : State} (h : P s) (c : ChannelId) : P (markPress c s) := by
  unfold Machine.markPress
  split
  · exact h
  · split
    · exact h
    · exact hP.flags h c rfl rfl (.inl rfl) (.inl rfl) rfl id id

/-! ## The arbiter -/

/-- A write to a station that keeps its held deflection. -/
theorem stationKeeps (hP : Calm P) {s : State} (h : P s) (p : Fin 4) {f : Station → Station}
    (hf : (f (s.station p)).held = (s.station p).held) : P (s.modStation p f) :=
  hP.station s p f h fun _ hd => .inl (hf ▸ hd)

theorem becomeOwner (hP : Calm P) {s : State} (h : P s) (c : ChannelId) (p : Fin 4) : P (becomeOwner c p s) :=
  hP.recompute (hP.flags (hP.stationKeeps (hP.arbiter s c _ h) p rfl) c rfl rfl (.inl rfl) (.inl rfl) rfl id id) c

theorem depart (hP : Calm P) {s : State} (h : P s) (c : ChannelId) (p : Fin 4) (lost : Bool) :
    P (depart c p lost s) := by
  have h1 := hP.arbiter _ c { (s.modStation p (fun st => { st with takeLatch := false })).arbiter c with owner := none }
    (hP.stationKeeps h p (f := fun st => { st with takeLatch := false }) rfl)
  have hnone : ∀ {u : State}, P u → P (Machine.recompute c ((clearMarks c
      (u.modArbiter c (fun a => { a with idle := 0 }))).modChannel c (fun ch => { ch with ownerChanged := true }))) :=
    fun hu => hP.recompute (hP.flags (hP.marks _ c (hP.arbiter _ c _ hu)) c rfl rfl (.inl rfl) (.inl rfl) rfl id id) c
  unfold Machine.depart
  dsimp only
  split <;> split
  · exact hP.arbiter _ c _ (hP.becomeOwner h1 c _)
  · exact hP.arbiter _ c _ (hnone h1)
  · exact hP.becomeOwner h1 c _
  · exact hnone h1

theorem leaveWaiting (hP : Calm P) {s : State} (h : P s) (c : ChannelId) (p : Fin 4) : P (leaveWaiting c p s) :=
  hP.arbiter s c _ h

theorem claim (hP : Calm P) {s : State} (h : P s) (c : ChannelId) (p : Fin 4) (take : Bool) :
    P (claim c p take s) := by
  unfold Machine.claim
  split
  · exact hP.becomeOwner h c p
  · dsimp only
    split
    · exact hP.stationKeeps (hP.becomeOwner h c p) _ rfl
    · split
      · exact hP.becomeOwner h c p
      · unfold joinWaiting
        split
        · exact h
        · exact hP.stationKeeps (hP.arbiter s c _ h) p rfl

theorem settle (hP : Calm P) {s : State} (h : P s) (p : Fin 4) {d : Int} (hd : DeflectionInRange d) (j : Int)
    (take release : Bool) : P (settle p d j take release s) := by
  have h1 := hP.station s p (fun st => { st with
    held := some d
    takeLatch := latchAfter (s.station p).role take release (s.station p).takeLatch }) h
    (fun e he => .inr (by cases he; exact hd))
  unfold Machine.settle
  dsimp only
  split
  · split
    · exact hP.leaveWaiting (hP.depart h1 _ p true) _ p
    · split
      · exact hP.arbiter _ _ _ h1
      · exact h1
  · split
    · exact hP.claim h1 _ p _
    · exact hP.leaveWaiting h1 _ p

theorem leaveActive (hP : Calm P) {s : State} (h : P s) (p : Fin 4) (lost : Bool) : P (leaveActive p lost s) := by
  have h1 := hP.stationKeeps h p (f := fun st => { st with takeLatch := false, overridden := false }) rfl
  unfold Machine.leaveActive
  dsimp only
  split
  · exact hP.depart h1 _ p lost
  · exact hP.leaveWaiting h1 _ p

theorem reconfigure (hP : Calm P) {s : State} (h : P s) (p : Fin 4) (f : StationFields) : P (reconfigure p f s) :=
  hP.station _ p _ (hP.arbiter _ .b _ (hP.arbiter _ .a _ (hP.leaveActive h p false))) (fun _ hd => by cases hd)

theorem lapse (hP : Calm P) {s : State} (h : P s) (p : Fin 4) : P (lapse p s) := by
  unfold Machine.lapse
  split
  · exact h
  · exact hP.leaveActive (hP.stationKeeps h p rfl) p true

end Calm

namespace Moves

variable {P : State → Prop}

/-! ## A REPORT -/

theorem applyReport (hP : Moves P) {s : State} (h : P s) (p : Fin 4) (press : Buttons) (j : Int) :
    P (applyReport p press j s) := by
  unfold Machine.applyReport
  dsimp only
  generalize (s.station p).channel = c
  generalize decide ((s.arbiter c).owner = some p) = owns
  generalize (owns || decide ((s.station p).role = .operator)) = acts
  have h1 : P (if (acts && press.pause) = true then Machine.pausePress c s else s) := by
    split
    · exact hP.calm.pausePress h c
    · exact h
  generalize (if (acts && press.pause) = true then Machine.pausePress c s else s) = s1 at *
  have h2 : P (if (acts && press.next && !press.prev) = true then Machine.nextPress c s1
      else if (acts && press.prev && !press.next) = true then Machine.prevPress c s1 else s1) := by
    split
    · exact hP.next _ c h1
    · split
      · exact hP.prev _ c h1
      · exact h1
  generalize (if (acts && press.next && !press.prev) = true then Machine.nextPress c s1
      else if (acts && press.prev && !press.next) = true then Machine.prevPress c s1 else s1) = s2 at *
  have h3 : P (if (owns && decide (j ≠ 0)) = true then Machine.jog c j s2 else s2) := by
    split
    · exact hP.jog _ c j h2
    · exact h2
  split
  · exact h
  · split
    · exact hP.calm.recompute h3 c
    · exact h3

theorem takeReport (hP : Moves P) {s : State} (h : P s) (p : Fin 4) {l : Levels} (hd : DeflectionInRange l.d) :
    P (takeReport p l s) := by
  have h1 := hP.calm.settle (hP.calm.stationKeeps h p
    (f := fun st => { st with lapse := some s.lapseTime, lastLevels := some l, state := .active }) rfl) p hd l.j
    (pressesOf (s.station p) l.buttons).take (pressesOf (s.station p) l.buttons).release
  refine hP.applyReport ?_ p _ _
  split
  · exact hP.calm.markPress h1 _
  · exact h1

theorem offer_held (st : Station) (a : Answer) : (st.offer a).held = st.held := by
  unfold Station.offer
  split <;> rfl

theorem answer (hP : Moves P) {s : State} (h : P s) (p : Fin 4) (status : AnswerStatus) : P (answer p status s) :=
  hP.calm.stationKeeps h p (offer_held _ _)

theorem completeReport (hP : Moves P) {s : State} (h : P s) (p : Fin 4) (len : Nat) (body : List Byte) (check : Byte) :
    P (completeReport p len body check s) := by
  unfold Machine.completeReport
  split
  · exact hP.answer h p _
  · split
    · exact hP.answer (hP.calm.stationKeeps h p rfl) p _
    · split
      · exact hP.answer (hP.calm.stationKeeps h p rfl) p _
      · rename_i l hl
        exact hP.answer (hP.takeReport h p (toLevels_inRange hl)) p _

theorem stationChar (hP : Moves P) {s : State} (h : P s) (p : Fin 4) (c : LineChar) : P (stationChar p c s) := by
  have h1 := hP.calm.stationKeeps h p (f := fun st => { st with
    rx := ((s.station p).rx.feed c).1, gap := ((s.station p).rx.feed c).1.gapTimer }) rfl
  unfold Machine.stationChar
  split
  · exact h
  · dsimp only
    split
    · exact h1
    · exact hP.calm.stationKeeps h1 p rfl
    · exact hP.completeReport h1 p _ _ _

theorem stationGap (hP : Moves P) {s : State} (h : P s) (p : Fin 4) : P (stationGap p s) := by
  unfold Machine.stationGap
  split
  · exact h
  · exact hP.calm.stationKeeps (hP.calm.stationKeeps h p rfl) p rfl

theorem answerSent (hP : Moves P) {s : State} (h : P s) (p : Fin 4) : P (s.modStation p Station.answerSent) := by
  refine hP.calm.stationKeeps h p ?_
  unfold Station.answerSent
  split <;> rfl

theorem channelStep (hP : Moves P) (hheads : Headless P) {s : State} (h : P s) (c : ChannelId) : P (channelStep c s) := by
  unfold Machine.channelStep
  split
  · exact h
  · refine hheads _ _ ?_
    split
    · exact hP.ramp s c h
    · exact h

end Moves

namespace Soft

variable {P : State → Prop}

/-! ## Motions -/

/-- A write to a channel that keeps its state, tuning, S and T. -/
theorem flags (hP : Soft P) {s : State} (h : P s) (c : ChannelId) {f : Channel → Channel}
    (hstate : (f (s.channel c)).state = (s.channel c).state) (htuning : (f (s.channel c)).tuning = (s.channel c).tuning)
    (hspeed : (f (s.channel c)).speed = (s.channel c).speed ∨ (f (s.channel c)).speed = 0)
    (htarget : (f (s.channel c)).target = (s.channel c).target ∨ (f (s.channel c)).target = 0) :
    P (s.modChannel c f) :=
  hP.tuned s c _ h ⟨hstate, htuning, hspeed.imp_right .inl, htarget.imp_right .inl⟩

theorem calm (hP : Soft P) : Calm P where
  station := hP.station
  marks := hP.marks
  arbiter := hP.arbiter
  calm s c ch h ht _ := hP.tuned s c ch h ht

theorem place (hP : Soft P) {s : State} (h : P s) (c : ChannelId) (rp : ReadPoint) : P (s.place c rp) :=
  hP.flags h c rfl rfl (.inl rfl) (.inl rfl)

theorem enter (hP : Soft P) {s : State} (h : P s) (c : ChannelId) (id : Nat) : P (enter c id s) :=
  hP.flags (hP.entered s c id h) c rfl rfl (.inl rfl) (.inl rfl)

theorem cross (hP : Soft P) {s : State} (h : P s) (c : ChannelId) (old : Nat) (kind : LeaveKind) (rp : ReadPoint) :
    P (cross c old kind rp s) :=
  hP.enter (hP.left _ c old kind (hP.place h c rp)) c rp.story

theorem clampEnd (hP : Soft P) {s : State} (h : P s) (c : ChannelId) (st : Story) (byStep : Bool) :
    P (clampEnd c st byStep s) := by
  refine hP.calm.recompute (hP.flags h c rfl rfl ?_ (.inl rfl)) c
  cases byStep
  · exact .inl rfl
  · exact .inr rfl

theorem clampStart (hP : Soft P) {s : State} (h : P s) (c : ChannelId) (st : Story) (byStep : Bool) :
    P (clampStart c st byStep s) := by
  refine hP.calm.recompute (hP.flags h c rfl rfl ?_ (.inl rfl)) c
  cases byStep
  · exact .inl rfl
  · exact .inr rfl

theorem reportLines (hP : Soft P) (c : ChannelId) (id : Nat) (ks : List Nat) {s : State} (h : P s) :
    P (reportLines c id ks s) := by
  unfold Machine.reportLines
  induction ks generalizing s with
  | nil => exact h
  | cons k ks ih => exact ih (hP.reported s c id k h)

theorem stepForward (hP : Soft P) {s : State} (h : P s) (c : ChannelId) (u : Nat) : P (stepForward c u s) := by
  unfold Machine.stepForward
  split
  · exact h
  · split
    · exact h
    · dsimp only
      split
      · exact hP.calm.movedForward (hP.place h c _) c
      · split
        · exact hP.reported _ c _ _ (hP.calm.movedForward (hP.place h c _) c)
        · split
          · exact hP.clampEnd h c _ _
          · exact hP.calm.movedForward (hP.cross h c _ _ _) c

theorem stepBackward (hP : Soft P) {s : State} (h : P s) (c : ChannelId) (u : Nat) : P (stepBackward c u s) := by
  unfold Machine.stepBackward
  split
  · exact h
  · split
    · exact h
    · dsimp only
      split
      · exact hP.calm.movedBackward (hP.place h c _) c
      · split
        · exact hP.calm.movedBackward (hP.place h c _) c
        · split
          · exact hP.clampStart h c _ _
          · split
            · exact h
            · exact hP.calm.movedBackward (hP.cross h c _ _ _) c

theorem rampAndMove (hP : Soft P) {s : State} (h : P s) (c : ChannelId) : P (rampAndMove c s) := by
  have hramp := hP.tuned s c
    { s.channel c with speed := ramp (s.channel c).tuning (s.channel c).speed (s.channel c).target } h
    ⟨rfl, rfl, .inr (.inr rfl), .inl rfl⟩
  unfold Machine.rampAndMove
  dsimp only
  split
  · exact hP.stepForward hramp c _
  · split
    · exact hP.stepBackward hramp c _
    · exact hramp

theorem walkForward (hP : Soft P) (c : ChannelId) (frac : Nat) (ahead : List Nat) :
    ∀ (lo target : Nat) {s : State}, P s → P (walkForward c frac ahead lo target s) := by
  induction ahead with
  | nil =>
    intro lo target s h
    unfold Machine.walkForward
    split
    · exact h
    · split
      · exact hP.calm.movedForward (hP.place (hP.reportLines c _ _ h) c _) c
      · exact hP.clampEnd (hP.reportLines c _ _ h) c _ _
  | cons next rest ih =>
    intro lo target s h
    unfold Machine.walkForward
    split
    · exact h
    · split
      · exact hP.calm.movedForward (hP.place (hP.reportLines c _ _ h) c _) c
      · exact ih _ _ (hP.cross (hP.reportLines c _ _ h) c _ _ _)

theorem walkBackward (hP : Soft P) (c : ChannelId) (frac : Nat) (behind : List Nat) :
    ∀ (row d : Nat) {s : State}, P s → P (walkBackward c frac behind row d s) := by
  induction behind with
  | nil =>
    intro row d s h
    unfold Machine.walkBackward
    split
    · exact h
    · split
      · exact hP.calm.movedBackward (hP.place h c _) c
      · exact hP.clampStart h c _ _
  | cons before rest ih =>
    intro row d s h
    unfold Machine.walkBackward
    split
    · exact h
    · split
      · exact hP.calm.movedBackward (hP.place h c _) c
      · dsimp only
        split
        · exact h
        · exact ih _ _ (hP.cross h c _ _ _)

theorem jog (hP : Soft P) {s : State} (h : P s) (c : ChannelId) (j : Int) : P (jog c j s) := by
  unfold Machine.jog
  dsimp only
  split
  · split
    · split
      · exact h
      · exact hP.walkForward c _ _ _ _ h
    · split
      · split
        · exact h
        · exact hP.walkBackward c _ _ _ _ h
      · exact h
  · exact h

theorem nextPress (hP : Soft P) {s : State} (h : P s) (c : ChannelId) : P (nextPress c s) := by
  unfold Machine.nextPress
  split
  · exact h
  · split
    · exact h
    · exact hP.calm.atRest (hP.cross h c _ _ _) c

theorem prevPress (hP : Soft P) {s : State} (h : P s) (c : ChannelId) : P (prevPress c s) := by
  unfold Machine.prevPress
  split
  · exact h
  · split
    · exact hP.flags h c rfl rfl (.inr rfl) (.inr rfl)
    · split
      · exact h
      · exact hP.calm.atRest (hP.cross h c _ _ _) c

theorem unload (hP : Soft P) {s : State} (h : P s) (c : ChannelId) : P (unload c s) := by
  unfold Machine.unload
  dsimp only
  split
  · exact h
  · refine hP.emptied _ c _ ?_ ⟨rfl, rfl, rfl, rfl⟩
    split
    · exact hP.left s c _ _ h
    · exact h

theorem moves (hP : Soft P) : Moves P where
  calm := hP.calm
  next _ c h := hP.nextPress h c
  prev _ c h := hP.prevPress h c
  jog _ c j h := hP.jog h c j
  ramp _ c h := hP.rampAndMove h c

end Soft

namespace Headless

variable {P : State → Prop}

/-! ## The head ports -/

theorem headChar (hP : Headless P) {s : State} (h : P s) (hd : Fin 4) (c : LineChar) : P (headChar hd c s) := by
  unfold Machine.headChar
  split
  · exact h
  · dsimp only
    split
    · exact hP _ _ h
    · exact hP _ _ h
    · unfold completeFetch
      split
      · exact hP _ _ h
      · split
        · exact hP _ _ h
        · exact hP _ _ (hP _ _ h)

theorem headGap (hP : Headless P) {s : State} (h : P s) (hd : Fin 4) : P (headGap hd s) := hP _ _ h

theorem headSent (hP : Headless P) {s : State} (h : P s) (hd : Fin 4) : P (headSent hd s) := by
  unfold Machine.headSent
  split
  · exact h
  · exact hP _ _ h

end Headless

end Sys2Proof.Machine
end

section
/-! PROOF. What a command of the catalogue does, said once: the effects that the commands have when they are not refused,
and the three that take time. -/

namespace Sys2Proof.Machine

/-- A splice that passed its checks (R32, R34): the story, the range and the new lines. -/
structure Spliceable (s : State) (id k m : Nat) (st : Story) (ls : List Line) : Prop where
  live : s.story? id = some st
  first : 1 ≤ k
  last : k + m ≤ st.n + 1
  bounded : ∀ l ∈ ls, LineBounded l
  room : st.n + ls.length ≤ 255 + m
  pool : ls.length ≤ s.freeLines + m

/-- The part after an accepted splice. -/
def spliceState (id k m : Nat) (st : Story) (ls : List Line) (s : State) : State :=
  spliceNoticeAt .b id k m ls.length (spliceNoticeAt .a id k m ls.length
    { s.modStory id (fun _ => st.spliced s.heights k m ls) with freeLines := s.freeLines + m - ls.length })

/-- The channel's read point loaded at a place (R45). -/
def loadState (c : ChannelId) (rp : ReadPoint) (s : State) : State :=
  (atRest c (enter c rp.story ((match (s.channel c).readPoint with
      | some old => leave c old.story .neutral s
      | none => s).place c rp))).modChannel c
    (fun ch => { ch with state := if ch.state = .unloaded then .parked else ch.state })

/-- The fields that STORY PROPS may write, in range (R16). -/
def PropsWritten (st st' : Story) : Prop :=
  st' = { st with
      slug := st'.slug, p := st'.p, autoRetire := st'.autoRetire, generation := (st.generation + 1) % 256 }
    ∧ (st'.slug = st.slug ∨ (st'.slug.length ≤ 16 ∧ ∀ b ∈ st'.slug, substitute b = b))
    ∧ (st'.p = st.p ∨ ∀ p ∈ st'.p, p ≤ 5999)

/-- The effects of the commands that complete when they are taken; the link's answer comes after. -/
inductive Effect (s : State) : State → Prop where
  | nothing : Effect s s
  | inserted (id anchor : Nat) (h0 : id ≠ 0) (hid : id ≤ 65535) (hnew : s.isLive id = false)
      (hroom : s.stories.length < 128) :
      Effect s (orderNotice
        { s with stories := insertAfter anchor (Story.create id s.heights.slugBand) s.stories })
  | moved (id anchor : Nat) (st : Story) (hst : s.story? id = some st) :
      Effect s (orderNotice { s with stories := insertAfter anchor st (removeStory id s.stories) })
  | floated (id : Nat) (st : Story) (hst : s.story? id = some st) (hair : st.air ≠ .doomed)
      (hf : st.floated = false) :
      Effect s { s.modStory id (fun x => { x with floated := true }) with pt := s.pt - st.seconds }
  | restored (id : Nat) (st : Story) (hst : s.story? id = some st) (hair : st.air ≠ .doomed)
      (hf : st.floated = true) :
      Effect s (orderNotice
        { s.modStory id (fun x => { x with floated := false }) with pt := s.pt + st.seconds })
  | killed (id : Nat) : Effect s (kill id s).1
  | written (id : Nat) (st st' : Story) (hst : s.story? id = some st) (hair : st.air ≠ .doomed)
      (hw : PropsWritten st st') :
      Effect s { s.modStory id (fun _ => st') with
        pt := if st.floated then s.pt else s.pt - st.seconds + st'.seconds }
  | locked (id : Nat) (l : Lock) : Effect s (s.modStory id (fun x => { x with lock := l }))
  | spliced (id k m : Nat) (st : Story) (ls : List Line) (h : Spliceable s id k m st ls) :
      Effect s (spliceState id k m st ls s)
  | rearmed (id : Nat) :
      Effect s (s.modStory id (fun x => { x with lines := x.lines.map (fun l => { l with fired := false }) }))
  | loaded (c : ChannelId) (id k : Nat) (st : Story) (hst : s.story? id = some st) (hr : st.readable = true) :
      Effect s (loadState c ⟨id, min k st.n, 0, 0⟩ s)
  | ran (c : ChannelId) (h : (s.channel c).state = .parked) : Effect s (recompute c (s.modChannel c Channel.run))
  | parked (c : ChannelId) (h : (s.channel c).state = .live) :
      Effect s (s.modChannel c (fun ch => { ch with state := .parked, speed := 0, target := 0 }))
  | unloaded (c : ChannelId) : Effect s (unload c s)
  | tuned (c : ChannelId) (f : TuneFields) (curve : Curve) :
      Effect s (recompute c (s.modChannel c (fun ch =>
        { ch with
          tuning := (s.channel c).tuning.tuned f curve
          speed := limitSpeed ((s.channel c).tuning.tuned f curve) ch.speed })))
  | channelRead (c : ChannelId) : Effect s (statusChannel c s).1
  | stationSet (p : Fin 4) (f : StationFields) (lapse hand : Option Nat) :
      Effect s (if f.reconfigures then reconfigure p f { s with
          lapseTime := (lapse.map (clampNat 50 1000)).getD s.lapseTime
          handOff := (hand.map (clampNat 0 5000)).getD s.handOff }
        else { s with
          lapseTime := (lapse.map (clampNat 50 1000)).getD s.lapseTime
          handOff := (hand.map (clampNat 0 5000)).getD s.handOff })
  | stationRead (p : Fin 4) : Effect s (statusStation p s).1
  | attached (h : Fin 4) (c : ChannelId) : Effect s (s.modHead h (attachHead s c))
  | detached (h : Fin 4) : Effect s (s.modHead h Head.detach)
  | headRead (h : Fin 4) : Effect s (statusHead h s).1
  | clockSet (v : Int) : Effect s (cmdClockSet v s).1
  | clockHeld : Effect s (cmdClockHold s).1
  | clockResumed : Effect s (cmdClockResume s).1
  | timingRead : Effect s (cmdTimingRead s).1
  | lead (c : ChannelId) : Effect s { s with cues := { s.cues with lead := c } }
  | output (o : Fin 4) (a : CueAction) (width : Option Nat) (level : Option Level) :
      Effect s (s.modOutput o (fun _ => (s.output o).configured a width level))

/-- How a command that an idle link dispatches leaves the part: answered, or executing. -/
inductive Concluded (s : State) : State → Prop where
  | answered (t : State) (status : Status) (code : Byte) (payload : Payload) (he : Effect s t) :
      Concluded s (t.respond status code payload)
  | checking (id : Nat) (st : Story) (hst : s.story? id = some st) :
      Concluded s { s.modStory id (fun x => { x with checkInFlight := true }) with
        link := { s.link with state := .executing (.check id) } }
  | clearing (n : Nat) (t : State) (ht : t = unload .b (unload .a { s with clearInProgress := true })) :
      Concluded s { t with link := { t.link with state := .executing (.clear n) } }
  | recomputing (h : Heights) (ha : s.channelA.state ≠ .live) (hb : s.channelB.state ≠ .live) :
      Concluded s { s with
        pendingHeights := some h.clamped
        stories := s.stories.map (fun st => { st with pendingG := some (geometryOf h.clamped st.lines) })
        link := { s.link with state := .executing .geometry } }

theorem concluded_refuse (status : Status) (code : Byte) (s : State) :
    Concluded s (conclude code (refuse status s)) := .answered s status code .empty .nothing

theorem concluded_okay {s t : State} (h : Effect s t) (code : Byte) (payload : Payload) :
    Concluded s (conclude code (okay payload t)) := .answered t .ok code payload h

/-! ## The commands of the rundown store -/

theorem concluded_storyNew {id anchor : Nat} (hid : id ≤ 65535) (s : State) :
    Concluded s (conclude 0x10 (cmdStoryNew id anchor s)) := by
  unfold cmdStoryNew
  split
  · exact concluded_refuse _ _ s
  · rename_i h0
    split
    · exact concluded_refuse _ _ s
    · rename_i hnew
      split
      · exact concluded_refuse _ _ s
      · split
        · exact concluded_refuse _ _ s
        · rename_i hroom
          exact concluded_okay (.inserted id anchor h0 hid (by simpa using hnew) (by omega)) _ _

theorem concluded_storyMove (id anchor : Nat) (s : State) :
    Concluded s (conclude 0x11 (cmdStoryMove id anchor s)) := by
  unfold cmdStoryMove
  split
  · exact concluded_refuse _ _ s
  · rename_i st hst
    split
    · exact concluded_refuse _ _ s
    · split
      · exact concluded_refuse _ _ s
      · exact concluded_okay (.moved id anchor st hst) _ _

theorem concluded_storyFloat (id : Nat) (s : State) : Concluded s (conclude 0x12 (cmdStoryFloat id s)) := by
  unfold cmdStoryFloat
  split
  · exact concluded_refuse _ _ s
  · rename_i st hst
    split
    · exact concluded_refuse _ _ s
    · rename_i hair
      split
      · exact concluded_okay .nothing _ _
      · rename_i hf
        exact concluded_okay (.floated id st hst hair (by simpa using hf)) _ _

theorem concluded_storyRestore (id : Nat) (s : State) : Concluded s (conclude 0x13 (cmdStoryRestore id s)) := by
  unfold cmdStoryRestore
  split
  · exact concluded_refuse _ _ s
  · rename_i st hst
    split
    · exact concluded_refuse _ _ s
    · rename_i hair
      split
      · rename_i hf
        exact concluded_okay (.restored id st hst hair hf) _ _
      · exact concluded_okay .nothing _ _

theorem concluded_storyKill (id : Nat) (s : State) : Concluded s (conclude 0x14 (cmdStoryKill id s)) := by
  unfold cmdStoryKill
  split
  · exact concluded_refuse _ _ s
  · exact concluded_okay (.killed id) _ _

/-- A code as stored is its own substitute (R23). -/
theorem substitute_substitute (b : Byte) : substitute (substitute b) = substitute b := by
  unfold substitute
  split
  · rfl
  · rfl

theorem substitute_of_mem_storedText {t : List Byte} : ∀ b ∈ storedText t, substitute b = b := by
  intro b hb
  obtain ⟨x, -, rfl⟩ := List.mem_map.mp hb
  exact substitute_substitute x

theorem takeP_le (x : Nat) : ∀ p ∈ takeP x, p ≤ 5999 := by
  intro p hp
  unfold takeP at hp
  split at hp
  · cases hp
  · cases hp
    exact Nat.min_le_right x 5999

theorem concluded_storyProps (id : Nat) (slug : Option (List Byte)) (p auto : Option Nat) (s : State) :
    Concluded s (conclude 0x15 (cmdStoryProps id slug p auto s)) := by
  unfold cmdStoryProps
  split
  · exact concluded_refuse _ _ s
  · rename_i st hst
    split
    · exact concluded_refuse _ _ s
    · split
      · exact concluded_refuse _ _ s
      · rename_i hlong
        split
        · exact concluded_refuse _ _ s
        · split
          · exact concluded_refuse _ _ s
          · rename_i hair
            split
            · exact concluded_refuse _ _ s
            · refine concluded_okay (.written id st _ hst hair ⟨rfl, ?_, ?_⟩) _ _
              · cases slug with
                | none => exact .inl rfl
                | some t =>
                  refine .inr ⟨?_, substitute_of_mem_storedText⟩
                  simpa [storedText] using hlong
              · cases p with
                | none => exact .inl rfl
                | some x => exact .inr (takeP_le x)

theorem concluded_storyLock (id level : Nat) (s : State) : Concluded s (conclude 0x16 (cmdStoryLock id level s)) := by
  unfold cmdStoryLock
  split
  · exact concluded_refuse _ _ s
  · split
    · exact concluded_refuse _ _ s
    · split
      · exact concluded_refuse _ _ s
      · exact concluded_okay (.locked id _) _ _

theorem concluded_storyUnlock (id : Nat) (s : State) : Concluded s (conclude 0x17 (cmdStoryUnlock id s)) := by
  unfold cmdStoryUnlock
  split
  · exact concluded_refuse _ _ s
  · split
    · exact concluded_refuse _ _ s
    · exact concluded_okay (.locked id .none) _ _

theorem lineBounded_of_newLine {r : RawLine} {l : Line} (h : newLine r = some l) : LineBounded l := by
  unfold newLine at h
  split at h
  · cases h
  · rename_i hbad
    split at h
    · cases h
    · cases h
      refine ⟨?_, substitute_of_mem_storedText, fun _ => rfl⟩
      simp only [Bool.or_eq_true, decide_eq_true_eq, not_or, Nat.not_lt] at hbad
      simpa [storedText] using hbad.2

theorem newLines_cons_eq_some {r : RawLine} {rs : List RawLine} {ls : List Line} (h : newLines (r :: rs) = some ls) :
    ∃ l ls', newLine r = some l ∧ newLines rs = some ls' ∧ ls = l :: ls' := by
  rw [newLines] at h
  split at h
  · rename_i l ls' hl hls
    cases h
    exact ⟨l, ls', hl, hls, rfl⟩
  · cases h

theorem length_newLines {rs : List RawLine} : ∀ {ls : List Line}, newLines rs = some ls → ls.length = rs.length := by
  induction rs with
  | nil =>
    intro ls h
    cases h
    rfl
  | cons r rs ih =>
    intro ls h
    obtain ⟨l, ls', -, hls, rfl⟩ := newLines_cons_eq_some h
    rw [List.length_cons, List.length_cons, ih hls]

theorem lineBounded_of_newLines {rs : List RawLine} :
    ∀ {ls : List Line}, newLines rs = some ls → ∀ l ∈ ls, LineBounded l := by
  induction rs with
  | nil =>
    intro ls h
    cases h
    exact List.forall_mem_nil _
  | cons r rs ih =>
    intro ls h
    obtain ⟨l, ls', hl, hls, rfl⟩ := newLines_cons_eq_some h
    exact List.forall_mem_cons.mpr ⟨lineBounded_of_newLine hl, ih hls⟩

theorem concluded_storySplice (id k m : Nat) (new : List RawLine) (s : State) :
    Concluded s (conclude 0x18 (cmdStorySplice id k m new s)) := by
  unfold cmdStorySplice
  split
  · exact concluded_refuse _ _ s
  · rename_i st hst
    dsimp only
    split
    · rename_i hargs
      split
      · exact concluded_refuse _ _ s
      · rename_i ls hls
        split
        · exact concluded_refuse _ _ s
        · split
          · exact concluded_refuse _ _ s
          · split
            · exact concluded_refuse _ _ s
            · rename_i hroom
              split
              · exact concluded_refuse _ _ s
              · rename_i hpool
                split
                · exact concluded_refuse _ _ s
                · have hlen := length_newLines hls
                  simp only [spliceArgsOk, Bool.not_eq_true', Bool.or_eq_false_iff, Bool.and_eq_false_iff,
                    decide_eq_false_iff_not] at hargs
                  have hsp : Spliceable s id k m st ls :=
                    ⟨hst, by omega, by omega, lineBounded_of_newLines hls, by omega, by omega⟩
                  have he := Effect.spliced id k m st ls hsp
                  rw [spliceState, hlen] at he
                  exact concluded_okay he _ _
    · exact concluded_refuse _ _ s

theorem concluded_storyCheck (id : Nat) (s : State) : Concluded s (conclude 0x1B (cmdStoryCheck id s)) := by
  unfold cmdStoryCheck
  split
  · exact concluded_refuse _ _ s
  · rename_i st hst
    exact .checking id st hst

theorem concluded_cuesRearm (id : Nat) (s : State) : Concluded s (conclude 0x22 (cmdCuesRearm id s)) := by
  unfold cmdCuesRearm
  split
  · exact concluded_refuse _ _ s
  · exact concluded_okay (.rearmed id) _ _

theorem concluded_geometrySet (h : Heights) (s : State) : Concluded s (conclude 0x60 (cmdGeometrySet h s)) := by
  unfold cmdGeometrySet
  split
  · exact concluded_refuse _ _ s
  · rename_i hlive
    rw [not_or] at hlive
    exact .recomputing h hlive.1 hlive.2

/-! ## The commands of the channels, the stations and the heads -/

theorem concluded_onChannel {code : Byte} {s : State} {f : ChannelId → State → State × Taken} (n : Nat)
    (h : ∀ c, Concluded s (conclude code (f c s))) : Concluded s (conclude code (onChannel n f s)) := by
  unfold onChannel
  split
  · exact concluded_refuse _ _ s
  · exact h _

theorem concluded_onPort {code : Byte} {s : State} {f : Fin 4 → State → State × Taken} (n : Nat)
    (h : ∀ p, Concluded s (conclude code (f p s))) : Concluded s (conclude code (onPort n f s)) := by
  unfold onPort
  split
  · exact concluded_refuse _ _ s
  · exact h _

theorem concluded_loadChannel (id k : Nat) (c : ChannelId) (s : State) :
    Concluded s (conclude 0x30 (loadChannel id k c s)) := by
  unfold loadChannel
  split
  · exact concluded_refuse _ _ s
  · rename_i st hst
    split
    · exact concluded_refuse _ _ s
    · rename_i hr
      exact concluded_okay (.loaded c id k st hst (by simpa using hr)) _ _

theorem concluded_runChannel (c : ChannelId) (s : State) : Concluded s (conclude 0x31 (runChannel c s)) := by
  cases h : (s.channel c).state with
  | unloaded => rw [runChannel_unloaded h]; exact concluded_refuse _ _ s
  | live => rw [runChannel_live h]; exact concluded_okay .nothing _ _
  | parked => rw [runChannel_parked h]; exact concluded_okay (.ran c h) _ _

theorem concluded_parkChannel (c : ChannelId) (s : State) : Concluded s (conclude 0x32 (parkChannel c s)) := by
  unfold parkChannel
  split
  · exact concluded_refuse _ _ s
  · exact concluded_okay .nothing _ _
  · rename_i h
    exact concluded_okay (.parked c h) _ _

theorem concluded_tuneChannel (f : TuneFields) (c : ChannelId) (s : State) :
    Concluded s (conclude 0x34 (tuneChannel f c s)) := by
  unfold tuneChannel
  split
  · exact concluded_refuse _ _ s
  · split
    · exact concluded_refuse _ _ s
    · exact concluded_okay (.tuned c f _) _ _

theorem concluded_setStation (f : StationFields) (p : Fin 4) (s : State) :
    Concluded s (conclude 0x40 (setStation f p s)) := by
  unfold setStation
  split
  · exact concluded_refuse _ _ s
  · exact concluded_okay (.stationSet p f f.lapseTime f.handOff) _ _

theorem concluded_setHead (ch : Nat) (h : Fin 4) (s : State) : Concluded s (conclude 0x48 (setHead ch h s)) := by
  unfold setHead
  split
  · exact concluded_refuse _ _ s
  · exact concluded_okay (.detached h) _ _
  · exact concluded_okay (.attached h _) _ _

/-! ## The commands of the clock, the cue unit and the device -/

theorem concluded_clockHold (s : State) : Concluded s (conclude 0x51 (cmdClockHold s)) := by
  have he : Effect s (cmdClockHold s).1 := .clockHeld
  unfold cmdClockHold at he ⊢
  split at he <;> exact concluded_okay he _ _

theorem concluded_clockResume (s : State) : Concluded s (conclude 0x52 (cmdClockResume s)) := by
  have he : Effect s (cmdClockResume s).1 := .clockResumed
  unfold cmdClockResume at he ⊢
  split at he <;> exact concluded_okay he _ _

theorem concluded_leadSet (ch : Nat) (s : State) : Concluded s (conclude 0x61 (cmdLeadSet ch s)) := by
  unfold cmdLeadSet
  split
  · exact concluded_refuse _ _ s
  · exact concluded_okay (.lead _) _ _

theorem concluded_cueOutputSet (out action : Nat) (width level : Option Nat) (s : State) :
    Concluded s (conclude 0x62 (cmdCueOutputSet out action width level s)) := by
  unfold cmdCueOutputSet
  split
  · exact concluded_okay (.output _ _ width _) _ _
  · exact concluded_refuse _ _ s

/-- What every command of the catalogue comes to. -/
theorem concluded_take {cmd : Command} (hf : cmd.fits) (s : State) :
    Concluded s (conclude cmd.code (take cmd s)) := by
  cases cmd with
  | storyNew id anchor => exact concluded_storyNew hf.1 s
  | storyMove id anchor => exact concluded_storyMove id anchor s
  | storyFloat id => exact concluded_storyFloat id s
  | storyRestore id => exact concluded_storyRestore id s
  | storyKill id => exact concluded_storyKill id s
  | storyProps id slug p auto => exact concluded_storyProps id slug p auto s
  | storyLock id level => exact concluded_storyLock id level s
  | storyUnlock id => exact concluded_storyUnlock id s
  | storySplice id k m new => exact concluded_storySplice id k m new s
  | storyRead id first count =>
    simp only [take, cmdStoryRead]
    split
    · exact concluded_refuse _ _ s
    · split
      · exact concluded_refuse _ _ s
      · exact concluded_okay .nothing _ _
  | storyInfo id =>
    simp only [take, cmdStoryInfo]
    split
    · exact concluded_refuse _ _ s
    · exact concluded_okay .nothing _ _
  | storyCheck id => exact concluded_storyCheck id s
  | orderList after count =>
    simp only [take, cmdOrderList]
    split
    · exact concluded_refuse _ _ s
    · exact concluded_okay .nothing _ _
  | rundownClear => exact .clearing _ _ rfl
  | cuesRearm id => exact concluded_cuesRearm id s
  | channelLoad ch id k => exact concluded_onChannel ch fun c => concluded_loadChannel id k c s
  | channelRun ch => exact concluded_onChannel ch fun c => concluded_runChannel c s
  | channelPark ch => exact concluded_onChannel ch fun c => concluded_parkChannel c s
  | channelUnload ch =>
    exact concluded_onChannel (f := fun c s => okay .empty (unload c s)) ch fun c =>
      concluded_okay (.unloaded c) _ _
  | channelTune ch f => exact concluded_onChannel ch fun c => concluded_tuneChannel f c s
  | channelStatus ch => exact concluded_onChannel ch fun c => concluded_okay (.channelRead c) _ _
  | stationSet st f => exact concluded_onPort st fun p => concluded_setStation f p s
  | stationStatus st => exact concluded_onPort st fun p => concluded_okay (.stationRead p) _ _
  | headSet hd ch => exact concluded_onPort hd fun p => concluded_setHead ch p s
  | headStatus hd => exact concluded_onPort hd fun p => concluded_okay (.headRead p) _ _
  | clockSet v => exact concluded_okay (.clockSet v) _ _
  | clockHold => exact concluded_clockHold s
  | clockResume => exact concluded_clockResume s
  | timingRead => exact concluded_okay .timingRead _ _
  | geometrySet ht => exact concluded_geometrySet ht s
  | leadSet ch => exact concluded_leadSet ch s
  | cueOutputSet out action width level => exact concluded_cueOutputSet out action width level s
  | deviceStatus => exact concluded_okay .nothing _ _
  | identify => exact concluded_okay .nothing _ _

end Sys2Proof.Machine
end

section
/-! PROOF. The books of the rundown store: stories, PT and line records balance at each of its operations. -/

namespace Sys2Proof.Machine

/-! ## The store as a collection -/

/-- A live story stands beside the others. -/
theorem perm_removeStory {s : State} {id : Nat} {st : Story} (hd : (s.stories.map Story.id).Nodup)
    (h : s.story? id = some st) : s.stories.Perm (st :: removeStory id s.stories) := by
  unfold State.story? at h
  unfold removeStory
  generalize s.stories = l at hd h
  induction l with
  | nil => simp at h
  | cons x xs ih =>
    rw [List.map_cons, List.nodup_cons] at hd
    by_cases hx : x.id = id
    · obtain rfl : x = st := by simpa [hx] using h
      have hxs : xs.filter (fun y => y.id != id) = xs := by
        refine List.filter_eq_self.mpr fun y hy => ?_
        have : y.id ≠ id := fun e => hd.1 (hx ▸ e ▸ List.mem_map_of_mem hy)
        simpa using this
      rw [List.filter_cons_of_neg (by simpa using hx), hxs]
    · rw [List.find?_cons_of_neg (by simpa using hx)] at h
      rw [List.filter_cons_of_pos (by simpa using hx)]
      exact ((ih hd.2 h).cons x).trans (List.Perm.swap st x _)

theorem ne_of_mem_removeStory {id : Nat} {l : List Story} {x : Story} (h : x ∈ removeStory id l) : x.id ≠ id := by
  simpa using (List.mem_filter.mp h).2

theorem mem_of_mem_removeStory {id : Nat} {l : List Story} {x : Story} (h : x ∈ removeStory id l) : x ∈ l :=
  (List.mem_filter.mp h).1

/-- With distinct IDs a change of a live story's record is a change of that one record. -/
theorem modStory_eq_of_live {s : State} {id : Nat} {st : Story} (hd : (s.stories.map Story.id).Nodup)
    (h : s.story? id = some st) (f : Story → Story) : s.modStory id f = s.modStory id (fun _ => f st) := by
  unfold State.modStory
  congr 1
  refine List.map_congr_left fun x hx => ?_
  split
  · rename_i he
    have : s.story? x.id = some x := State.story?_of_mem hd hx
    rw [he, h] at this
    cases this
    rfl
  · rfl

theorem not_live_iff {s : State} {id : Nat} : s.story? id = none ↔ ∀ x ∈ s.stories, x.id ≠ id := by
  simp [State.story?]

theorem modStory_of_not_live {s : State} {id : Nat} (h : s.story? id = none) (f : Story → Story) : s.modStory id f = s := by
  have hmap : s.stories.map (fun st => if st.id = id then f st else st) = s.stories :=
    (List.map_congr_left fun x hx => if_neg (not_live_iff.mp h x hx)).trans (List.map_id _)
  unfold State.modStory
  rw [hmap]

/-- A changed record stands beside the other stories. -/
theorem perm_modStory {s : State} {id : Nat} {st : Story} (hd : (s.stories.map Story.id).Nodup)
    (h : s.story? id = some st) (f : Story → Story) :
    (s.modStory id f).stories.Perm (f st :: removeStory id s.stories) := by
  have hp := (perm_removeStory hd h).map (fun x => if x.id = id then f x else x)
  have hothers : (removeStory id s.stories).map (fun x => if x.id = id then f x else x) = removeStory id s.stories :=
    (List.map_congr_left fun x hx => if_neg (ne_of_mem_removeStory hx)).trans (List.map_id _)
  rwa [List.map_cons, hothers, if_pos (State.story?_id h)] at hp

/-- A change that keeps the ID of the record it is made to keeps the running order. -/
theorem modStory_ids_of_id (s : State) {id : Nat} {f : Story → Story} (hf : ∀ x, x.id = id → (f x).id = id) :
    (s.modStory id f).stories.map Story.id = s.stories.map Story.id := by
  simp only [State.modStory, List.map_map]
  refine List.map_congr_left fun x _ => ?_
  by_cases hx : x.id = id
  · simp [hx, hf]
  · simp [hx]

/-! ## Distinct stories (R1, R3, R4) -/

/-- Fewer stories, in another order, are as distinct. -/
theorem StoriesDistinct.of_ids {s t : State} (hs : StoriesDistinct s) {ids : List Nat}
    (hperm : ids.Perm (t.stories.map Story.id)) (hsub : ids.Sublist (s.stories.map Story.id)) : StoriesDistinct t := by
  obtain ⟨hnodup, hlen, hid⟩ := hs
  refine ⟨hperm.nodup_iff.mp (hnodup.sublist hsub), ?_, fun st hst => ?_⟩
  · have hkept := hsub.length_le
    rw [hperm.length_eq, List.length_map, List.length_map] at hkept
    exact Nat.le_trans hkept hlen
  · obtain ⟨x, hx, he⟩ := List.mem_map.mp (hsub.subset (hperm.mem_iff.mpr (List.mem_map_of_mem hst)))
    exact he ▸ hid x hx

theorem StoriesDistinct.of_ids_eq {s t : State} (hs : StoriesDistinct s)
    (h : t.stories.map Story.id = s.stories.map Story.id) : StoriesDistinct t :=
  hs.of_ids (h ▸ .refl _) (.refl _)

/-- The same stories in another order are as distinct. -/
theorem StoriesDistinct.of_perm {s t : State} (hs : StoriesDistinct s) (h : t.stories.Perm s.stories) :
    StoriesDistinct t :=
  hs.of_ids (h.map Story.id).symm (.refl _)

theorem StoriesDistinct.modStory {s : State} (hs : StoriesDistinct s) {id : Nat} {f : Story → Story}
    (hf : ∀ x, x.id = id → (f x).id = id) : StoriesDistinct (s.modStory id f) :=
  hs.of_ids_eq (modStory_ids_of_id s hf)

theorem removeStory_ids_sublist (id : Nat) (l : List Story) :
    ((removeStory id l).map Story.id).Sublist (l.map Story.id) :=
  List.filter_sublist.map Story.id

theorem StoriesDistinct.retire {s : State} (hs : StoriesDistinct s) (id : Nat) : StoriesDistinct (retire id s) := by
  cases h : s.story? id with
  | none => rwa [retire_absent h]
  | some st => exact hs.of_ids (by rw [(retire_live h).1]) (removeStory_ids_sublist id _)

theorem StoriesDistinct.kill {s : State} (hs : StoriesDistinct s) (id : Nat) : StoriesDistinct (kill id s).1 := by
  cases h : s.story? id with
  | none => simpa [Machine.kill, h] using hs
  | some st =>
    rcases kill_cases h with ⟨-, e⟩ | ⟨-, -, e⟩ | ⟨-, -, e⟩ <;> rw [e]
    · exact hs.retire id
    · exact hs
    · exact (hs.modStory (id := id) (f := fun x => { x with air := .doomed }) fun x hx => hx)

/-- R3: STORY NEW adds an ID that was not live; STORY MOVE rearranges. -/
theorem StoriesDistinct.insert {s : State} (hs : StoriesDistinct s) {id : Nat} (h0 : id ≠ 0) (hid : id ≤ 65535)
    (hnew : s.isLive id = false) (hroom : s.stories.length < 128) {anchor : Nat} {st : Story} (hst : st.id = id) :
    StoriesDistinct { s with stories := insertAfter anchor st s.stories } := by
  obtain ⟨hnodup, hlen, hids⟩ := hs
  have hp := insertAfter_perm anchor st s.stories
  have hnot : st.id ∉ s.stories.map Story.id := by
    rw [← State.isLive_iff_mem, hst, hnew]
    exact Bool.false_ne_true
  refine ⟨(hp.map Story.id).nodup_iff.mpr (List.nodup_cons.mpr ⟨hnot, hnodup⟩), ?_, fun x hx => ?_⟩
  · rw [length_insertAfter]
    exact hroom
  · rcases List.mem_cons.mp (hp.mem_iff.mp hx) with rfl | hx
    · omega
    · exact hids x hx

theorem perm_move {s : State} (hd : (s.stories.map Story.id).Nodup) {id : Nat} {st : Story}
    (hst : s.story? id = some st) (anchor : Nat) :
    (insertAfter anchor st (removeStory id s.stories)).Perm s.stories :=
  (insertAfter_perm anchor st _).trans (perm_removeStory hd hst).symm

/-! ## PT and the line records balance (R11, R25) -/

/-- What a story puts into PT (R11). -/
def Story.weight (st : Story) : Nat := if st.counted then st.seconds else 0

theorem plannedTotal_eq (l : List Story) : ((l.filter Story.counted).map Story.seconds).sum = (l.map Story.weight).sum := by
  induction l with
  | nil => rfl
  | cons x xs ih =>
    cases h : x.counted <;> simp [h, Story.weight, ih]

/-- The store after stories were exchanged for others of the same balance. -/
theorem StoreSound.of_perm {s t : State} (hs : StoreSound s) (hd : StoriesDistinct t)
    {gone come rest : List Story} (hgone : s.stories.Perm (gone ++ rest)) (hcome : t.stories.Perm (come ++ rest))
    (hpt : (gone.map Story.weight).sum ≤ s.pt →
      t.pt + (gone.map Story.weight).sum = s.pt + (come.map Story.weight).sum)
    (hfree : t.freeLines + (come.map Story.n).sum = s.freeLines + (gone.map Story.n).sum) : StoreSound t := by
  obtain ⟨-, hptx, hlines⟩ := hs
  have hw (w : Story → Nat) {l m : List Story} (h : l.Perm (m ++ rest)) :
      (l.map w).sum = (m.map w).sum + (rest.map w).sum := by
    rw [(h.map w).sum_nat, List.map_append, List.sum_append_nat]
  unfold PlannedTotalExact at hptx
  unfold LinesConserved at hlines
  rw [plannedTotal_eq, hw _ hgone] at hptx
  rw [hw _ hgone] at hlines
  have := hpt (by omega)
  refine ⟨hd, ?_, ?_⟩
  · unfold PlannedTotalExact
    rw [plannedTotal_eq, hw _ hcome]
    omega
  · unfold LinesConserved
    rw [hw _ hcome]
    omega

/-- One record has been written. -/
theorem StoreSound.write {s t : State} (hs : StoreSound s) {id : Nat} {st : Story} (hst : s.story? id = some st)
    {f : Story → Story} (hid : (f st).id = id) (hstories : t.stories = (s.modStory id f).stories)
    (hpt : st.weight ≤ s.pt → t.pt + st.weight = s.pt + (f st).weight)
    (hfree : t.freeLines + (f st).n = s.freeLines + st.n) : StoreSound t := by
  have hd := hs.1.1
  refine hs.of_perm (gone := [st]) (come := [f st]) ?_ (perm_removeStory hd hst)
    (hstories ▸ perm_modStory hd hst f) (by simpa using hpt) (by simpa using hfree)
  refine hs.1.of_ids_eq ?_
  rw [hstories, modStory_eq_of_live hd hst f, modStory_ids_of_id s fun _ _ => hid]

/-- A change of a record that keeps its ID, its line count and what it puts into PT. -/
theorem StoreSound.amend {s : State} (hs : StoreSound s) (id : Nat) {f : Story → Story}
    (hf : ∀ x, x.id = id → (f x).id = id ∧ (f x).weight = x.weight ∧ (f x).n = x.n) : StoreSound (s.modStory id f) := by
  cases h : s.story? id with
  | none => rwa [modStory_of_not_live h]
  | some st =>
    obtain ⟨hid, hw, hn⟩ := hf st (State.story?_id h)
    exact hs.write h hid rfl (fun _ => by rw [hw]; rfl) (by rw [hn]; rfl)

theorem StoreSound.retire {s : State} (hs : StoreSound s) (id : Nat) : StoreSound (retire id s) := by
  cases h : s.story? id with
  | none => rwa [retire_absent h]
  | some st =>
    obtain ⟨hstories, hfree, hpt⟩ := retire_live h
    refine hs.of_perm (gone := [st]) (come := []) (hs.1.retire id) (perm_removeStory hs.1.1 h)
      (by rw [hstories]; exact .refl _) (fun hle => ?_) (by simpa using hfree)
    rw [hpt]
    simp only [List.map_cons, List.map_nil, List.sum_cons, List.sum_nil, Story.weight] at hle ⊢
    split <;> simp_all

theorem StoreSound.kill {s : State} (hs : StoreSound s) (id : Nat) : StoreSound (kill id s).1 := by
  cases h : s.story? id with
  | none => simpa [Machine.kill, h] using hs
  | some st =>
    rcases kill_cases h with ⟨-, e⟩ | ⟨-, -, e⟩ | ⟨-, hair, e⟩ <;> rw [e]
    · exact hs.retire id
    · exact hs
    · refine hs.write h (f := fun x => { x with air := .doomed }) (id := id) (show (st.id = id) from State.story?_id h) rfl (fun hle => ?_) rfl
      cases hf : st.floated <;> simp_all [Story.weight, Story.counted]

theorem Story.left_weight {c : ChannelId} {kind : LeaveKind} {lead : Bool} (st : Story) :
    (st.left c kind lead).weight = st.weight := by
  have hair : (airLeft lead kind st.air = .doomed) ↔ st.air = .doomed := by
    cases lead <;> cases kind <;> cases st.air <;> simp [airLeft]
  rw [Story.left_eq]
  cases c <;> simp [Story.weight, Story.counted, Story.setOpen, Story.seconds, bne, hair]

theorem Story.left_n {c : ChannelId} {kind : LeaveKind} {lead : Bool} (st : Story) :
    (st.left c kind lead).n = st.n := by
  rw [Story.left_eq]
  cases c <;> rfl

/-- What the first part of a leave, a kill and a retirement keep, a leave keeps (R5 to R10). -/
theorem leave_keeps {P : State → Prop} {s : State} (c : ChannelId) (id : Nat) (kind : LeaveKind) (hs : P s)
    (hleft : P (s.modStory id (Story.left c kind (decide (s.cues.lead = c)))))
    (hretire : ∀ u, P u → P (retire id u)) (hkill : ∀ u, P u → P (kill id u).1) : P (leave c id kind s) := by
  cases h : s.story? id with
  | none => rwa [leave_absent h]
  | some st =>
    rcases leave_cases h c kind with ⟨-, -, e⟩ | ⟨-, -, e⟩ | ⟨-, -, -, -, -, e⟩ | ⟨-, -, e⟩ <;> rw [e]
    · exact hretire _ hleft
    · exact hleft
    · exact hkill _ hleft
    · exact hleft

theorem StoreSound.leave {s : State} (hs : StoreSound s) (c : ChannelId) (id : Nat) (kind : LeaveKind) :
    StoreSound (leave c id kind s) :=
  leave_keeps c id kind hs
    (hs.amend id fun x hx => ⟨by simpa using hx, Story.left_weight x, Story.left_n x⟩)
    (fun _ hu => hu.retire id) (fun _ hu => hu.kill id)

theorem Story.setOpen_weight (st : Story) (c : ChannelId) (v : Bool) : (st.setOpen c v).weight = st.weight := by
  cases c <;> rfl

theorem Story.setOpen_n (st : Story) (c : ChannelId) (v : Bool) : (st.setOpen c v).n = st.n := by cases c <;> rfl

/-! ## Properties of the books alone -/

/-- The stories, PT and the free lines of `t` are those of `s`. -/
def SameBooks (s t : State) : Prop := t.stories = s.stories ∧ t.pt = s.pt ∧ t.freeLines = s.freeLines

theorem sameBooks_setChannel (s : State) (c : ChannelId) (ch : Channel) : SameBooks s (s.setChannel c ch) := by
  cases c <;> exact ⟨rfl, rfl, rfl⟩

theorem ChannelsOnly.sameBooks {s t : State} (h : ChannelsOnly s t) : SameBooks s t := by
  rw [h]
  exact ⟨rfl, rfl, rfl⟩

theorem ArbitersOnly.sameBooks {s t : State} (h : ArbitersOnly s t) : SameBooks s t := by
  rw [h]
  exact ⟨rfl, rfl, rfl⟩

/-- A line report does nothing or fires a cue that a line of a live story carries (R114). -/
theorem reportLine_cases (c : ChannelId) (id k : Nat) (s : State) :
    reportLine c id k s = s ∨ ∃ st l o, s.story? id = some st ∧ st.lines[k - 1]? = some l ∧ l.cue ≠ 0
      ∧ reportLine c id k s = fireCue id k l.cue o s := by
  unfold reportLine
  split
  · split
    · exact .inl rfl
    · rename_i l hl
      obtain ⟨st, hst, hline⟩ := Option.bind_eq_some_iff.mp hl
      split
      · exact .inl rfl
      · rename_i o ho
        split
        · exact .inl rfl
        · refine .inr ⟨st, l, o, hst, hline, fun h0 => ?_, rfl⟩
          simp [cueOutput, h0] at ho
  · exact .inl rfl

/-- A property of the books is kept by each way in which the books are written. -/
structure Books (P : State → Prop) : Prop where
  same : ∀ s t, SameBooks s t → P s → P t
  empty : ∀ s, s.stories = [] → s.pt = 0 → s.freeLines = 4096 → P s
  cleared : ∀ s, P s → P (completeClear s)
  left : ∀ s c id kind, P s → P (leave c id kind s)
  killed : ∀ s id, P s → P (kill id s).1
  opened : ∀ s c id, P s → P (s.modStory id (fun st => st.setOpen c true))
  fired : ∀ s id k st l, P s → s.story? id = some st → st.lines[k - 1]? = some l → l.cue ≠ 0 → P (setFired id k s)
  checked : ∀ s id v, P s → P (s.modStory id (fun st => { st with checkInFlight := v }))
  pended : ∀ s (g : List Line → Nat), P s →
    P { s with stories := s.stories.map (fun st => { st with pendingG := some (g st.lines) }) }
  measured : ∀ s, P s → P { s with stories := s.stories.map (fun st => { st with g := st.pendingG.getD st.g, pendingG := none }) }
  inserted : ∀ s id anchor slugBand, P s → id ≠ 0 → id ≤ 65535 → s.isLive id = false → s.stories.length < 128 →
    P { s with stories := insertAfter anchor (Story.create id slugBand) s.stories }
  moved : ∀ s id anchor st, P s → s.story? id = some st →
    P { s with stories := insertAfter anchor st (removeStory id s.stories) }
  floated : ∀ s id st, P s → s.story? id = some st → st.air ≠ .doomed → st.floated = false →
    P { s.modStory id (fun x => { x with floated := true }) with pt := s.pt - st.seconds }
  restored : ∀ s id st, P s → s.story? id = some st → st.air ≠ .doomed → st.floated = true →
    P { s.modStory id (fun x => { x with floated := false }) with pt := s.pt + st.seconds }
  written : ∀ s id st st', P s → s.story? id = some st → st.air ≠ .doomed → PropsWritten st st' →
    P { s.modStory id (fun _ => st') with pt := if st.floated then s.pt else s.pt - st.seconds + st'.seconds }
  locked : ∀ s id l, P s → P (s.modStory id (fun x => { x with lock := l }))
  spliced : ∀ s id k m st ls, P s → Spliceable s id k m st ls →
    P { s.modStory id (fun _ => st.spliced s.heights k m ls) with freeLines := s.freeLines + m - ls.length }
  rearmed : ∀ s id, P s →
    P (s.modStory id (fun x => { x with lines := x.lines.map (fun l => { l with fired := false }) }))

/-- The part with a new height table and the pending G values in effect, before the read points are adjusted (R31). -/
def measuredState (h : Heights) (s : State) : State :=
  { s with
    heights := h
    pendingHeights := none
    stories := s.stories.map (fun st => { st with g := st.pendingG.getD st.g, pendingG := none }) }

theorem completeGeometry_eq {s : State} {h : Heights} (hp : s.pendingHeights = some h) :
    completeGeometry s = (queueGeometryAll h (geometryAdjust .b (geometryAdjust .a (measuredState h s)))).respond
      .ok 0x60 (.heights h) := by
  simp only [completeGeometry, hp, measuredState]

namespace Books

variable {P : State → Prop}

theorem of_same (hP : Books P) {s t : State} (hs : P s) (h : SameBooks s t) : P t := hP.same s t h hs

theorem channelsOnly (hP : Books P) {s t : State} (h : ChannelsOnly s t) (hs : P s) : P t := hP.same s t h.sameBooks hs

theorem reported (hP : Books P) (s : State) (c : ChannelId) (id k : Nat) (hs : P s) : P (reportLine c id k s) := by
  rcases reportLine_cases c id k s with h | ⟨st, l, o, hst, hl, hcue, h⟩ <;> rw [h]
  · exact hs
  · exact hP.of_same (hP.fired s id k st l hs hst hl hcue) ⟨rfl, rfl, rfl⟩

theorem soft (hP : Books P) : Soft P where
  station s _ _ h _ := hP.same s _ ⟨rfl, rfl, rfl⟩ h
  marks s _ := hP.same s _ ⟨rfl, rfl, rfl⟩
  arbiter s c _ := hP.same s _ (by cases c <;> exact ⟨rfl, rfl, rfl⟩)
  tuned s c ch h _ := hP.same s _ (sameBooks_setChannel s c ch) h
  emptied s c ch h _ := hP.same s _ (sameBooks_setChannel s c ch) h
  left := hP.left
  entered := hP.opened
  reported := hP.reported

theorem headless (hP : Books P) : Headless P := fun s _ => hP.same s _ ⟨rfl, rfl, rfl⟩

theorem loaded (hP : Books P) {s : State} (hs : P s) (c : ChannelId) (rp : ReadPoint) : P (loadState c rp s) := by
  have hleft : P (match (s.channel c).readPoint with
      | some old => leave c old.story .neutral s
      | none => s) := by
    split
    · exact hP.left s c _ _ hs
    · exact hs
  exact hP.channelsOnly (channelsOnly_modChannel c _ _)
    (hP.soft.calm.atRest (hP.soft.enter (hP.soft.place hleft c rp) c rp.story) c)

/-- Every effect of a command keeps a property of the books. -/
theorem effect (hP : Books P) {s t : State} (he : Effect s t) (hs : P s) : P t := by
  have same {u : State} (h : SameBooks s u) : P u := hP.same s u h hs
  have notice {u v : State} (h : ChannelsOnly u v) (hu : P u) : P v := hP.channelsOnly h hu
  cases he with
  | nothing => exact hs
  | inserted id anchor h0 hid hnew hroom =>
    exact notice (channelsOnly_orderNotice _) (hP.inserted s id anchor _ hs h0 hid hnew hroom)
  | moved id anchor st hst => exact notice (channelsOnly_orderNotice _) (hP.moved s id anchor st hs hst)
  | floated id st hst hair hf => exact hP.floated s id st hs hst hair hf
  | restored id st hst hair hf => exact notice (channelsOnly_orderNotice _) (hP.restored s id st hs hst hair hf)
  | killed id => exact hP.killed s id hs
  | written id st st' hst hair hw => exact hP.written s id st st' hs hst hair hw
  | locked id l => exact hP.locked s id l hs
  | spliced id k m st ls h =>
    exact notice (channelsOnly_spliceNoticeAt .b id k m _ _)
      (notice (channelsOnly_spliceNoticeAt .a id k m _ _) (hP.spliced s id k m st ls hs h))
  | rearmed id => exact hP.rearmed s id hs
  | loaded c id k st hst hr => exact hP.loaded hs c _
  | ran c h => exact notice (channelsOnly_recompute c _) (notice (channelsOnly_modChannel c _ s) hs)
  | parked c h => exact notice (channelsOnly_modChannel c _ s) hs
  | unloaded c => exact hP.soft.unload hs c
  | tuned c f curve => exact notice (channelsOnly_recompute c _) (notice (channelsOnly_modChannel c _ s) hs)
  | channelRead c =>
    refine same ?_
    unfold statusChannel
    split <;> cases c <;> exact ⟨rfl, rfl, rfl⟩
  | stationSet p f lapse hand =>
    split
    · exact hP.of_same (same ⟨rfl, rfl, rfl⟩) (arbitersOnly_reconfigure p f _).sameBooks
    · exact same ⟨rfl, rfl, rfl⟩
  | stationRead p => exact same ⟨rfl, rfl, rfl⟩
  | attached h c => exact same ⟨rfl, rfl, rfl⟩
  | detached h => exact same ⟨rfl, rfl, rfl⟩
  | headRead h => exact same ⟨rfl, rfl, rfl⟩
  | clockSet v => exact same ⟨rfl, rfl, rfl⟩
  | clockHeld =>
    refine same ?_
    unfold cmdClockHold
    split <;> exact ⟨rfl, rfl, rfl⟩
  | clockResumed =>
    refine same ?_
    unfold cmdClockResume
    split <;> exact ⟨rfl, rfl, rfl⟩
  | timingRead => exact same ⟨rfl, rfl, rfl⟩
  | lead c => exact same ⟨rfl, rfl, rfl⟩
  | output o a width level => exact same ⟨rfl, rfl, rfl⟩

theorem concluded (hP : Books P) {s t : State} (hc : Concluded s t) (hs : P s) : P t := by
  cases hc with
  | answered t status code payload he => exact hP.same t _ ⟨rfl, rfl, rfl⟩ (hP.effect he hs)
  | checking id st hst => exact hP.of_same (hP.checked s id true hs) ⟨rfl, rfl, rfl⟩
  | clearing n t ht =>
    have hcleared : P { s with clearInProgress := true } := hP.same s _ ⟨rfl, rfl, rfl⟩ hs
    exact hP.same t _ ⟨rfl, rfl, rfl⟩ (ht ▸ hP.soft.unload (hP.soft.unload hcleared .a) .b)
  | recomputing h ha hb => exact hP.of_same (hP.pended s (geometryOf h.clamped) hs) ⟨rfl, rfl, rfl⟩

/-- Every kind of event keeps a property of the books. -/
theorem kept (hP : Books P) : Kept Always P where
  unqueue s _ := hP.same s _ ⟨rfl, rfl, rfl⟩
  tick s _ := hP.same s _ ⟨rfl, rfl, rfl⟩
  reset s := hP.empty _ rfl rfl rfl
  startUp s rate _ h := by
    unfold startUp
    split
    · exact h
    · exact hP.same s _ ⟨rfl, rfl, rfl⟩ h
  fed s _ _ := hP.same s _ ⟨rfl, rfl, rfl⟩
  hunting s _ := hP.same s _ ⟨rfl, rfl, rfl⟩
  slot s _ _ h _ := hP.same s _ ⟨rfl, rfl, rfl⟩ h
  misfit s _ _ _ h _ := hP.same s _ ⟨rfl, rfl, rfl⟩ h
  command cmd s hf _ h _ := hP.concluded (concluded_take hf s) h
  sent s _ h := by
    refine hP.same s _ ?_ h
    unfold gatewaySent
    split
    · split
      · exact ⟨rfl, rfl, rfl⟩
      · split <;> exact ⟨rfl, rfl, rfl⟩
    · exact ⟨rfl, rfl, rfl⟩
  checked s _ h := by
    unfold finishCheck
    split
    · unfold completeCheck
      split
      · exact hP.same s _ ⟨rfl, rfl, rfl⟩ h
      · exact hP.of_same (hP.checked s _ false h) ⟨rfl, rfl, rfl⟩
    · exact h
  cleared s _ h := by
    unfold finishClear
    split
    · exact hP.of_same (hP.cleared s h) ⟨rfl, rfl, rfl⟩
    · exact h
  recomputed s _ h := by
    unfold finishGeometry
    split
    · cases hp : s.pendingHeights with
      | none => simpa [completeGeometry, hp] using h
      | some heights =>
        rw [completeGeometry_eq hp]
        have hmeasured : P (measuredState heights s) := hP.of_same (hP.measured s h) ⟨rfl, rfl, rfl⟩
        have hadjusted := hP.channelsOnly (channelsOnly_geometryAdjust .b _)
          (hP.channelsOnly (channelsOnly_geometryAdjust .a _) hmeasured)
        exact hP.of_same hadjusted ⟨rfl, rfl, rfl⟩
    · exact h
  channelStep s c _ h := hP.soft.moves.channelStep hP.headless h c
  second s _ h := by
    refine hP.same s _ ?_ h
    unfold countSecond
    split <;> exact ⟨rfl, rfl, rfl⟩
  pulse s _ _ := hP.same s _ ⟨rfl, rfl, rfl⟩
  stationChar s p c _ h := hP.soft.moves.stationChar h p c
  stationGap s p _ h := hP.soft.moves.stationGap h p
  lapse s p _ h := hP.soft.calm.lapse h p
  answerSent s p _ h := hP.soft.moves.answerSent h p
  headChar s hd c _ h := hP.headless.headChar h hd c
  headGap s hd _ h := hP.headless.headGap h hd
  headSent s hd _ h := hP.headless.headSent h hd

end Books

/-! ## The store (R1, R3, R11, R25) -/

theorem length_modify_fired (ls : List Line) (i : Nat) :
    (ls.modify i (fun l => { l with fired := true })).length = ls.length := List.length_modify _ _ _

theorem weight_of_counted {st : Story} (hair : st.air ≠ .doomed) (hf : st.floated = false) : st.weight = st.seconds := by
  simp [Story.weight, Story.counted, hair, hf]

theorem weight_of_floated {st : Story} (hf : st.floated = true) : st.weight = 0 := by
  simp [Story.weight, Story.counted, hf]

theorem StoriesDistinct.map {s t : State} (hs : StoriesDistinct s) (f : Story → Story) (hf : ∀ x, (f x).id = x.id)
    (ht : t.stories = s.stories.map f) : StoriesDistinct t := by
  refine hs.of_ids_eq ?_
  rw [ht, List.map_map, List.map_congr_left (f := Story.id ∘ f) (g := Story.id) fun x _ => hf x]

theorem StoreSound.map {s : State} (hs : StoreSound s) (f : Story → Story)
    (hf : ∀ x, (f x).id = x.id ∧ (f x).weight = x.weight ∧ (f x).n = x.n) :
    StoreSound { s with stories := s.stories.map f } := by
  have hsum (w : Story → Nat) (hw : ∀ x, w (f x) = w x) : ((s.stories.map f).map w).sum = (s.stories.map w).sum := by
    rw [List.map_map, List.map_congr_left (f := w ∘ f) (g := w) fun x _ => hw x]
  obtain ⟨hd, hpt, hlines⟩ := hs
  refine ⟨hd.map f (fun x => (hf x).1) rfl, ?_, ?_⟩
  · unfold PlannedTotalExact at hpt ⊢
    rw [plannedTotal_eq] at hpt ⊢
    rw [hsum _ fun x => (hf x).2.1]
    exact hpt
  · unfold LinesConserved at hlines ⊢
    rw [hsum _ fun x => (hf x).2.2]
    exact hlines

theorem length_spliceLines {ls new : List Line} {k m : Nat} (h1 : 1 ≤ k) (h2 : k + m ≤ ls.length + 1) :
    (spliceLines ls k m new).length + m = ls.length + new.length := by
  simp only [spliceLines, List.length_append, List.length_take, List.length_drop]
  omega

theorem storeSound_books : Books StoreSound where
  same s t h hs := by
    obtain ⟨h1, h2, h3⟩ := h
    simpa only [StoreSound, StoriesDistinct, PlannedTotalExact, LinesConserved, h1, h2, h3] using hs
  empty s h1 h2 h3 := by simp [StoreSound, StoriesDistinct, PlannedTotalExact, LinesConserved, h1, h2, h3]
  cleared s hs := by
    obtain ⟨-, -, hlines⟩ := hs
    refine ⟨⟨List.nodup_nil, Nat.zero_le _, List.forall_mem_nil _⟩, rfl, ?_⟩
    simpa [completeClear, LinesConserved, State.modChannel, State.setChannel] using hlines
  left s c id kind hs := hs.leave c id kind
  killed s id hs := hs.kill id
  opened s c id hs := hs.amend id fun x hx =>
    ⟨by rwa [Story.setOpen_id], x.setOpen_weight c true, x.setOpen_n c true⟩
  fired s id k _ _ hs _ _ _ := hs.amend id fun x hx => ⟨hx, rfl, length_modify_fired _ _⟩
  checked s id v hs := hs.amend id fun x hx => ⟨hx, rfl, rfl⟩
  pended s g hs := hs.map _ fun x => ⟨rfl, rfl, rfl⟩
  measured s hs := hs.map _ fun x => ⟨rfl, rfl, rfl⟩
  inserted s id anchor slugBand hs h0 hid hnew hroom := by
    refine hs.of_perm (gone := []) (come := [Story.create id slugBand]) (rest := s.stories)
      (hs.1.insert h0 hid hnew hroom rfl) (.refl _) (insertAfter_perm anchor _ _) (fun _ => ?_) rfl
    simp [Story.weight, Story.create, Story.counted, Story.seconds]
  moved s id anchor st hs hst := by
    have hp := perm_move hs.1.1 hst anchor
    exact hs.of_perm (gone := []) (come := []) (hs.1.of_perm hp) (.refl _) hp (fun _ => rfl) rfl
  floated s id st hs hst hair hf := by
    refine hs.write hst (f := fun x => { x with floated := true }) (State.story?_id hst :) rfl (fun hle => ?_) rfl
    rw [weight_of_counted hair hf] at hle ⊢
    rw [weight_of_floated rfl]
    exact Nat.sub_add_cancel hle
  restored s id st hs hst hair hf := by
    refine hs.write hst (f := fun x => { x with floated := false }) (State.story?_id hst :) rfl (fun hle => ?_) rfl
    rw [weight_of_floated hf, weight_of_counted (by exact hair) rfl]
    rfl
  written s id st st' hs hst hair hw := by
    obtain ⟨heq, -, -⟩ := hw
    have hid : st'.id = st.id := by rw [heq]
    have hair' : st'.air ≠ .doomed := by rwa [heq]
    have hfl : st'.floated = st.floated := by rw [heq]
    have hn : st'.n = st.n := by rw [heq]; rfl
    refine hs.write hst (f := fun _ => st') (hid.trans (State.story?_id hst)) rfl (fun hle => ?_) (congrArg (s.freeLines + ·) hn)
    cases hf : st.floated with
    | true => rw [weight_of_floated hf, weight_of_floated (hfl.trans hf)]; rfl
    | false =>
      rw [weight_of_counted hair hf] at hle ⊢
      rw [weight_of_counted hair' (hfl.trans hf)]
      simp only [Bool.false_eq_true, if_false]
      omega
  locked s id l hs := hs.amend id fun x hx => ⟨hx, rfl, rfl⟩
  spliced s id k m st ls hs h := by
    obtain ⟨hst, hk, hkm, -, -, hpool⟩ := h
    have hlen := length_spliceLines (new := ls) hk hkm
    refine hs.write hst (f := fun _ => st.spliced s.heights k m ls)
      (show st.id = id from State.story?_id hst) rfl (fun _ => rfl) ?_
    show s.freeLines + m - ls.length + (spliceLines st.lines k m ls).length = s.freeLines + st.lines.length
    omega
  rearmed s id hs := hs.amend id fun x hx => ⟨hx, rfl, List.length_map _⟩

/-! ## The records (section 1.1, R22, R24) -/

/-- Every story of `t` is one of `s` or within its ranges. -/
theorem StoriesBounded.of_mem {s t : State} (hs : StoriesBounded s)
    (h : ∀ x ∈ t.stories, x ∈ s.stories ∨ StoryBounded x) : StoriesBounded t :=
  fun x hx => (h x hx).elim (hs x) id

theorem StoriesBounded.modStory {s : State} (hs : StoriesBounded s) (id : Nat) {f : Story → Story}
    (hf : ∀ x ∈ s.stories, x.id = id → StoryBounded x → StoryBounded (f x)) : StoriesBounded (s.modStory id f) := by
  intro y hy
  obtain ⟨x, hx, rfl⟩ := List.mem_map.mp hy
  split
  · rename_i hid
    exact hf x hx hid (hs x hx)
  · exact hs x hx

theorem StoriesBounded.retire {s : State} (hs : StoriesBounded s) (id : Nat) : StoriesBounded (retire id s) := by
  cases h : s.story? id with
  | none => rwa [retire_absent h]
  | some st => exact hs.of_mem fun x hx => .inl (mem_of_mem_removeStory ((retire_live h).1 ▸ hx))

theorem StoriesBounded.kill {s : State} (hs : StoriesBounded s) (id : Nat) : StoriesBounded (kill id s).1 := by
  cases h : s.story? id with
  | none => simpa [Machine.kill, h] using hs
  | some st =>
    rcases kill_cases h with ⟨-, e⟩ | ⟨-, -, e⟩ | ⟨-, -, e⟩ <;> rw [e]
    · exact hs.retire id
    · exact hs
    · exact (hs.modStory id (f := fun x => { x with air := .doomed }) fun x _ _ hx => hx)

/-- A record that keeps its slug, P, lines and generation keeps its ranges. -/
theorem StoryBounded.of_eq {x y : Story} (hx : StoryBounded x) (hslug : y.slug = x.slug) (hp : y.p = x.p)
    (hlines : y.lines = x.lines) (hgen : y.generation = x.generation) : StoryBounded y := by
  simpa only [StoryBounded, Story.n, hslug, hp, hlines, hgen] using hx

theorem Story.left_bounded {c : ChannelId} {kind : LeaveKind} {lead : Bool} {st : Story} (h : StoryBounded st) :
    StoryBounded (st.left c kind lead) := by
  rw [Story.left_eq]
  cases c <;> exact h

theorem RecordsSound.kill {s : State} (hs : RecordsSound s) (id : Nat) : RecordsSound (kill id s).1 :=
  ⟨hs.1.kill id, hs.2.kill id⟩

theorem RecordsSound.modStory {s : State} (hs : RecordsSound s) (id : Nat) {f : Story → Story}
    (hid : ∀ x, x.id = id → (f x).id = id)
    (hf : ∀ x ∈ s.stories, x.id = id → StoryBounded x → StoryBounded (f x)) : RecordsSound (s.modStory id f) :=
  ⟨hs.1.modStory hid, hs.2.modStory id hf⟩

theorem RecordsSound.map {s t : State} (hs : RecordsSound s) (f : Story → Story) (hid : ∀ x, (f x).id = x.id)
    (hf : ∀ x, StoryBounded x → StoryBounded (f x)) (ht : t.stories = s.stories.map f) : RecordsSound t := by
  refine ⟨hs.1.map f hid ht, fun y hy => ?_⟩
  obtain ⟨x, hx, rfl⟩ := List.mem_map.mp (ht ▸ hy)
  exact hf x (hs.2 x hx)

theorem bounded_create (id slugBand : Nat) : StoryBounded (Story.create id slugBand) := by
  simp [StoryBounded, Story.create, Story.n]

theorem PropsWritten.bounded {st st' : Story} (h : PropsWritten st st') (hst : StoryBounded st) : StoryBounded st' := by
  obtain ⟨heq, hslug, hp⟩ := h
  obtain ⟨h1, h2, h3, h4, -, h6⟩ := hst
  have hlines : st'.lines = st.lines := by rw [heq]
  have hgen : st'.generation ≤ 255 := by
    rw [heq]
    exact Nat.le_of_lt_succ (Nat.mod_lt _ (by decide))
  have hslug' : st'.slug.length ≤ 16 ∧ ∀ b ∈ st'.slug, substitute b = b := by
    rcases hslug with e | e
    · rw [e]
      exact ⟨h1, h2⟩
    · exact e
  have hp' : ∀ p ∈ st'.p, p ≤ 5999 := by
    rcases hp with e | e
    · rwa [e]
    · exact e
  exact ⟨hslug'.1, hslug'.2, hp', by rwa [Story.n, hlines], hgen, by rwa [hlines]⟩

theorem Spliceable.bounded_story {s : State} {id k m : Nat} {st : Story} {ls : List Line} (h : Spliceable s id k m st ls)
    (hst : StoryBounded st) : StoryBounded (st.spliced s.heights k m ls) := by
  obtain ⟨-, hk, hkm, hls, hroom, -⟩ := h
  obtain ⟨h1, h2, h3, -, -, h6⟩ := hst
  have hlen := length_spliceLines (new := ls) hk hkm
  refine ⟨h1, h2, h3, ?_, Nat.le_of_lt_succ (Nat.mod_lt _ (by decide)), fun l hl => ?_⟩
  · show (spliceLines st.lines k m ls).length ≤ 255
    unfold Story.n at hroom
    omega
  · rcases List.mem_append.mp (show l ∈ spliceLines st.lines k m ls from hl) with hl | hl
    · rcases List.mem_append.mp hl with hl | hl
      · exact h6 l (List.mem_of_mem_take hl)
      · exact hls l hl
    · exact h6 l (List.mem_of_mem_drop hl)

theorem bounded_fired {st : Story} {k : Nat} {l : Line} (hst : StoryBounded st) (hl : st.lines[k]? = some l)
    (hcue : l.cue ≠ 0) :
    StoryBounded { st with lines := st.lines.modify k (fun l => { l with fired := true }) } := by
  obtain ⟨h1, h2, h3, h4, h5, h6⟩ := hst
  refine ⟨h1, h2, h3, by simpa [Story.n] using h4, h5, fun x hx => ?_⟩
  obtain ⟨i, hi⟩ := List.mem_iff_getElem?.mp hx
  rw [List.getElem?_modify] at hi
  obtain ⟨y, hy, rfl⟩ := Option.map_eq_some_iff.mp hi
  obtain ⟨hlen, htext, hfired⟩ := h6 y (List.mem_of_getElem? hy)
  split
  · rename_i he
    subst he
    obtain rfl : l = y := Option.some_inj.mp (hl.symm.trans hy)
    exact ⟨hlen, htext, fun h0 => absurd h0 hcue⟩
  · exact ⟨hlen, htext, hfired⟩

theorem bounded_rearmed {st : Story} (hst : StoryBounded st) :
    StoryBounded { st with lines := st.lines.map (fun l => { l with fired := false }) } := by
  obtain ⟨h1, h2, h3, h4, h5, h6⟩ := hst
  refine ⟨h1, h2, h3, by simpa [Story.n] using h4, h5, fun x hx => ?_⟩
  obtain ⟨y, hy, rfl⟩ := List.mem_map.mp hx
  obtain ⟨hlen, htext, -⟩ := h6 y hy
  exact ⟨hlen, htext, fun _ => rfl⟩

theorem recordsSound_books : Books RecordsSound where
  same s t h hs := by
    obtain ⟨h1, -, -⟩ := h
    simpa only [RecordsSound, StoriesDistinct, StoriesBounded, h1] using hs
  empty s h1 _ _ := by simp [RecordsSound, StoriesDistinct, StoriesBounded, h1]
  cleared s hs := ⟨⟨List.nodup_nil, Nat.zero_le _, List.forall_mem_nil _⟩, List.forall_mem_nil _⟩
  left s c id kind hs := leave_keeps c id kind hs
    (hs.modStory id (fun x hx => by simpa using hx) fun x _ _ h => Story.left_bounded h)
    (fun u hu => ⟨hu.1.retire id, hu.2.retire id⟩) (fun u hu => hu.kill id)
  killed s id hs := hs.kill id
  opened s c id hs := hs.modStory id (fun x hx => by rwa [Story.setOpen_id]) fun x _ _ h => by cases c <;> exact h
  fired s id k st l hs hst hl hcue := hs.modStory id (fun _ hx => hx) fun x hx hid h => by
    have hlookup := State.story?_of_mem hs.1.1 hx
    rw [hid, hst] at hlookup
    cases hlookup
    exact bounded_fired h hl hcue
  checked s id v hs := hs.modStory id (fun _ hx => hx) fun _ _ _ h => h
  pended s g hs :=
    hs.map (fun st => { st with pendingG := some (g st.lines) }) (fun _ => rfl) (fun _ h => h) rfl
  measured s hs :=
    hs.map (fun st => { st with g := st.pendingG.getD st.g, pendingG := none }) (fun _ => rfl) (fun _ h => h) rfl
  inserted s id anchor slugBand hs h0 hid hnew hroom :=
    ⟨hs.1.insert h0 hid hnew hroom rfl, hs.2.of_mem fun x hx => by
      rcases List.mem_cons.mp ((insertAfter_perm anchor _ _).mem_iff.mp hx) with rfl | hx
      · exact .inr (bounded_create id slugBand)
      · exact .inl hx⟩
  moved s id anchor st hs hst :=
    have hp := perm_move hs.1.1 hst anchor
    ⟨hs.1.of_perm hp, hs.2.of_mem fun _ hx => .inl (hp.mem_iff.mp hx)⟩
  floated s id st hs hst _ _ := hs.modStory id (f := fun x => { x with floated := true }) (fun _ hx => hx) fun _ _ _ h => h
  restored s id st hs hst _ _ :=
    hs.modStory id (f := fun x => { x with floated := false }) (fun _ hx => hx) fun _ _ _ h => h
  written s id st st' hs hst _ hw :=
    hs.modStory id (f := fun _ => st') (fun _ _ => (congrArg Story.id hw.1).trans (show st.id = id from State.story?_id hst)) fun x hx hid h =>
      hw.bounded (hs.2 st (State.story?_mem hst))
  locked s id l hs := hs.modStory id (fun _ hx => hx) fun _ _ _ h => h
  spliced s id k m st ls hs h :=
    hs.modStory id (f := fun _ => st.spliced s.heights k m ls) (fun _ _ => (show st.id = id from State.story?_id h.live)) fun _ _ _ _ =>
      h.bounded_story (hs.2 st (State.story?_mem h.live))
  rearmed s id hs := hs.modStory id (fun _ hx => hx) fun _ _ _ h => bounded_rearmed h

/-- Sections 1.1, 1.2, 1.5, 2.1 and 2.2.
Settles O54. -/
theorem everyStepAccountsForStoriesSecondsAndLines : Obligations.EveryStepAccountsForStoriesSecondsAndLines :=
  fun _ _ hst => ⟨storeSound_books.kept.step hst, recordsSound_books.kept.step hst⟩

end Sys2Proof.Machine
end

section
/-! PROOF. S, T and the tuning of a channel stay within their limits (R43, R49, R51, R67 to R73). -/

namespace Sys2Proof.Machine

theorem mem_ports : ∀ p : Fin 4, p ∈ ports := by decide

/-! ## Notices, made of the small acts -/

namespace Calm

variable {P : State → Prop}

theorem orderNoticeAt (hP : Calm P) {s : State} (h : P s) (c : ChannelId) : P (orderNoticeAt c s) := by
  unfold Machine.orderNoticeAt
  split
  · exact h
  · dsimp only
    split
    · exact hP.recompute (hP.flags h c rfl rfl (.inl rfl) (.inl rfl) rfl
        (fun hf => (Bool.and_eq_true_iff.mp hf).1) (fun hf => (Bool.and_eq_true_iff.mp hf).1)) c
    · exact h

theorem orderNotice (hP : Calm P) {s : State} (h : P s) : P (orderNotice s) :=
  hP.orderNoticeAt (hP.orderNoticeAt h .a) .b

end Calm

namespace Soft

variable {P : State → Prop}

theorem spliceNoticeAt (hP : Soft P) {s : State} (h : P s) (c : ChannelId) (id k m added : Nat) :
    P (spliceNoticeAt c id k m added s) := by
  unfold Machine.spliceNoticeAt
  split
  · split
    · dsimp only
      split
      · exact hP.calm.recompute (hP.flags (hP.place h c _) c rfl rfl (.inl rfl) (.inl rfl)) c
      · exact hP.place h c _
    · exact h
  · exact h

theorem geometryAdjust (hP : Soft P) {s : State} (h : P s) (c : ChannelId) : P (geometryAdjust c s) := by
  unfold Machine.geometryAdjust
  dsimp only
  split
  · split
    · split
      · exact hP.place h c _
      · split
        · exact hP.place h c _
        · exact h
    · exact h
  · exact h

end Soft

/-! ## The bounds of the ramp and of the speed law -/

/-- S moves towards T and never past it or past 0 (R71, R72). -/
theorem ramp_between (t : Tuning) (S T : Int) :
    min (min S T) 0 ≤ ramp t S T ∧ ramp t S T ≤ max (max S T) 0 := by
  unfold ramp
  split
  · omega
  · split <;> dsimp only <;> split <;> omega

theorem speedLaw_bounds {t : Tuning} (ht : TuningBounded t) {d : Int} (hd : DeflectionInRange d) :
    -(t.vrev : Int) ≤ speedLaw t d ∧ speedLaw t d ≤ t.vmax := by
  have hdz : t.dz < 127 := by have := ht.2.2.2.2.1; omega
  have h1 := speedLaw_mono t hd.1
  have h2 := speedLaw_mono t hd.2
  rw [speedLaw_full_backward hdz] at h1
  rw [speedLaw_full_forward hdz] at h2
  exact ⟨h1, h2⟩

theorem targetFor_cases (s : State) (c : ChannelId) :
    targetFor s c = 0 ∨ ((s.channel c).state = .live ∧ ∃ p, (s.arbiter c).owner = some p
      ∧ targetFor s c = speedLaw (s.channel c).tuning ((s.station p).held.getD 0)) := by
  unfold targetFor
  cases h : (s.arbiter c).owner with
  | none => exact .inl rfl
  | some p =>
    dsimp only
    split
    · exact .inl rfl
    · rename_i hl
      split
      · exact .inl rfl
      · split
        · exact .inl rfl
        · split
          · exact .inl rfl
          · exact .inr ⟨by simpa using hl, p, rfl, rfl⟩

theorem speedsBounded_iff (s : State) :
    SpeedsBounded s ↔ (∀ c, ChannelBounded (s.channel c)) ∧ ∀ p, ∀ d ∈ (s.station p).held, DeflectionInRange d := by
  constructor
  · rintro ⟨ha, hb, hp⟩
    exact ⟨fun c => by cases c <;> assumption, fun p => hp p (mem_ports p)⟩
  · rintro ⟨hc, hp⟩
    exact ⟨hc .a, hc .b, fun p _ => hp p⟩

theorem targetFor_bounds {s : State} (hs : SpeedsBounded s) (c : ChannelId) :
    -((s.channel c).tuning.vrev : Int) ≤ targetFor s c ∧ targetFor s c ≤ ((s.channel c).tuning.vmax : Int)
      ∧ ((s.channel c).state ≠ .live → targetFor s c = 0) := by
  obtain ⟨hch, hheld⟩ := (speedsBounded_iff s).mp hs
  rcases targetFor_cases s c with h | ⟨hl, p, -, h⟩ <;> rw [h]
  · omega
  · have hd : DeflectionInRange ((s.station p).held.getD 0) := by
      cases he : (s.station p).held with
      | none => exact ⟨by decide, by decide⟩
      | some d => exact hheld p d he
    have hb := speedLaw_bounds (hch c).1 hd
    exact ⟨hb.1, hb.2, fun hn => absurd hl hn⟩

/-! ## What keeps the bounds -/

theorem SpeedsBounded.setChannel {s : State} (hs : SpeedsBounded s) (c : ChannelId) {ch : Channel}
    (hch : ChannelBounded ch) : SpeedsBounded (s.setChannel c ch) := by
  rw [speedsBounded_iff] at hs ⊢
  refine ⟨fun d => ?_, fun p => by rw [State.setChannel_station]; exact hs.2 p⟩
  by_cases hd : d = c
  · subst hd
    rwa [State.setChannel_same]
  · rw [State.setChannel_other s hd]
    exact hs.1 d

theorem SpeedsBounded.channel {s : State} (hs : SpeedsBounded s) (c : ChannelId) : ChannelBounded (s.channel c) :=
  ((speedsBounded_iff s).mp hs).1 c

/-- The channels and the held deflections of `t` are those of `s`. -/
def SameMotion (s t : State) : Prop :=
  t.channelA = s.channelA ∧ t.channelB = s.channelB ∧ ∀ p, (t.station p).held = (s.station p).held

theorem SpeedsBounded.same {s t : State} (hs : SpeedsBounded s) (h : SameMotion s t) : SpeedsBounded t := by
  obtain ⟨h1, h2, h3⟩ := h
  refine ⟨h1 ▸ hs.1, h2 ▸ hs.2.1, fun p hp => ?_⟩
  rw [h3]
  exact hs.2.2 p hp

theorem sameMotion_modStation {s : State} {p : Fin 4} {f : Station → Station}
    (hf : (f (s.station p)).held = (s.station p).held) : SameMotion s (s.modStation p f) := by
  refine ⟨rfl, rfl, fun q => ?_⟩
  by_cases hq : q = p
  · subst hq
    rwa [State.modStation_same]
  · rw [State.modStation_other s hq]

theorem SpeedsBounded.tuned {s : State} (hs : SpeedsBounded s) {c : ChannelId} {ch : Channel} (h : Tuned s c ch) :
    SpeedsBounded (s.setChannel c ch) := by
  obtain ⟨hstate, htuning, hspeed, htarget⟩ := h
  obtain ⟨htb, hs1, hs2, ht1, ht2, hrest⟩ := hs.channel c
  have hT := targetFor_bounds hs c
  have hR := ramp_between (s.channel c).tuning (s.channel c).speed (s.channel c).target
  have hbounds : (-((s.channel c).tuning.vrev : Int) ≤ ch.speed ∧ ch.speed ≤ (s.channel c).tuning.vmax)
      ∧ (-((s.channel c).tuning.vrev : Int) ≤ ch.target ∧ ch.target ≤ (s.channel c).tuning.vmax) := by
    constructor
    · rcases hspeed with e | e | e <;> rw [e] <;> omega
    · rcases htarget with e | e | e <;> rw [e] <;> omega
  refine hs.setChannel c ⟨htuning ▸ htb, ?_, ?_, ?_, ?_, fun hl => ?_⟩
  · rw [htuning]; exact hbounds.1.1
  · rw [htuning]; exact hbounds.1.2
  · rw [htuning]; exact hbounds.2.1
  · rw [htuning]; exact hbounds.2.2
  · rw [hstate] at hl
    obtain ⟨hs0, ht0⟩ := hrest hl
    rw [hs0, ht0, ramp_self] at hspeed
    rw [ht0, hT.2.2 hl] at htarget
    simp only [or_self] at hspeed htarget
    exact ⟨hspeed, htarget⟩

theorem speedsBounded_soft : Soft SpeedsBounded where
  station s p f hs hf := by
    rw [speedsBounded_iff] at hs ⊢
    refine ⟨hs.1, fun q d hd => ?_⟩
    by_cases hq : q = p
    · subst hq
      rw [State.modStation_same] at hd
      exact (hf d hd).elim (hs.2 q d) id
    · rw [State.modStation_other s hq] at hd
      exact hs.2 q d hd
  marks s c hs := hs.same ⟨rfl, rfl, fun p => by
    simp only [clearMarks, State.station, Fin.getElem_fin, Vector.getElem_map]
    split <;> rfl⟩
  arbiter s c r hs := hs.same (by cases c <;> exact ⟨rfl, rfl, fun _ => rfl⟩)
  tuned s c ch hs h := hs.tuned h
  emptied s c ch hs h := by
    obtain ⟨-, htuning, hspeed, htarget⟩ := h
    refine hs.setChannel c ⟨htuning ▸ (hs.channel c).1, ?_, ?_, ?_, ?_, fun _ => ⟨hspeed, htarget⟩⟩ <;>
      simp only [hspeed, htarget] <;> omega
  left s c id kind hs := hs.same (by rw [leave_frame]; exact ⟨rfl, rfl, fun _ => rfl⟩)
  entered s c id hs := hs
  reported s c id k hs := by
    rcases reportLine_cases c id k s with h | ⟨_, _, _, _, _, _, h⟩ <;> rw [h] <;> exact hs

theorem speedsBounded_headless : Headless SpeedsBounded := fun _ _ hs => hs

/-! ## The commands -/

theorem clampNat_bounds {lo hi : Nat} (h : lo ≤ hi) (n : Nat) : lo ≤ clampNat lo hi n ∧ clampNat lo hi n ≤ hi := by
  unfold clampNat
  omega

/-- A present field is clamped into its range, an absent one stays in it. -/
theorem clampedField_bounds {lo hi old : Nat} (h : lo ≤ old ∧ old ≤ hi) (x : Option Nat) :
    lo ≤ (x.map (clampNat lo hi)).getD old ∧ (x.map (clampNat lo hi)).getD old ≤ hi := by
  cases x with
  | none => exact h
  | some n => exact clampNat_bounds (Nat.le_trans h.1 h.2) n

theorem tuned_bounds {t : Tuning} (ht : TuningBounded t) (f : TuneFields) (curve : Curve) :
    TuningBounded (t.tuned f curve) := by
  obtain ⟨h1, h2, h3, h4, h5, h6, h7, h8, h9, h10, h11, h12⟩ := ht
  have b1 := clampedField_bounds ⟨h1, h2⟩ f.vmax
  have b2 := clampedField_bounds ⟨h3, h4⟩ f.vrev
  have b3 := clampedField_bounds ⟨Nat.zero_le _, h5⟩ f.dz
  have b4 := clampedField_bounds ⟨h6, h7⟩ f.rampUp
  have b5 := clampedField_bounds ⟨h8, h9⟩ f.rampDown
  have b6 := clampedField_bounds ⟨h10, h11⟩ f.jogStep
  have b7 := clampedField_bounds ⟨Nat.zero_le _, h12⟩ f.guard
  exact ⟨b1.1, b1.2, b2.1, b2.2, b3.2, b4.1, b4.2, b5.1, b5.2, b6.1, b6.2, b7.2⟩

theorem limitSpeed_bounds (t : Tuning) (S : Int) :
    -(t.vrev : Int) ≤ limitSpeed t S ∧ limitSpeed t S ≤ t.vmax ∧ (S = 0 → limitSpeed t S = 0) := by
  unfold limitSpeed
  split
  · omega
  · split <;> omega

theorem channelBounded_withTarget {ch : Channel} (h : ChannelBounded { ch with target := 0 }) {T : Int}
    (h1 : -(ch.tuning.vrev : Int) ≤ T) (h2 : T ≤ ch.tuning.vmax) (h3 : ch.state ≠ .live → T = 0) :
    ChannelBounded { ch with target := T } := by
  obtain ⟨ht, hs1, hs2, -, -, hr⟩ := h
  exact ⟨ht, hs1, hs2, h1, h2, fun hl => ⟨(hr hl).1, h3 hl⟩⟩

/-- A write to a channel's record that the recompute of T follows: T may be what it likes in between (R46, R49). -/
theorem SpeedsBounded.recomputed {s : State} (hs : SpeedsBounded s) (c : ChannelId) {f : Channel → Channel}
    (h0 : ChannelBounded { f (s.channel c) with target := 0 }) : SpeedsBounded (recompute c (s.modChannel c f)) := by
  have hzero : SpeedsBounded (s.modChannel c (fun ch => { f ch with target := 0 })) := hs.setChannel c h0
  have hT := targetFor_bounds hzero c
  have he : targetFor (s.modChannel c (fun ch => { f ch with target := 0 })) c = targetFor (s.modChannel c f) c := by
    cases c <;> rfl
  rw [he, State.modChannel_same] at hT
  have hr : recompute c (s.modChannel c f)
      = s.setChannel c { f (s.channel c) with target := targetFor (s.modChannel c f) c } := by cases c <;> rfl
  rw [hr]
  exact hs.setChannel c (channelBounded_withTarget h0 hT.1 hT.2.1 hT.2.2)

theorem SpeedsBounded.loaded {s : State} (hs : SpeedsBounded s) (c : ChannelId) (rp : ReadPoint) :
    SpeedsBounded (loadState c rp s) := by
  have hleft : SpeedsBounded (match (s.channel c).readPoint with
      | some old => leave c old.story .neutral s
      | none => s) := by
    split
    · exact speedsBounded_soft.left s c _ _ hs
    · exact hs
  have hrest := speedsBounded_soft.calm.atRest (speedsBounded_soft.enter (speedsBounded_soft.place hleft c rp) c rp.story) c
  obtain ⟨ht, hs1, hs2, ht1, ht2, -⟩ := hrest.channel c
  refine hrest.setChannel c ⟨ht, hs1, hs2, ht1, ht2, fun _ => ?_⟩
  simp [atRest]

theorem SpeedsBounded.effect {s t : State} (hs : SpeedsBounded s) (he : Effect s t) : SpeedsBounded t := by
  have hP := speedsBounded_soft
  have same {u : State} (h : SameMotion s u) : SpeedsBounded u := hs.same h
  cases he with
  | nothing => exact hs
  | inserted id anchor h0 hid hnew hroom => exact hP.calm.orderNotice hs
  | moved id anchor st hst => exact hP.calm.orderNotice hs
  | floated id st hst hair hf => exact hs
  | restored id st hst hair hf => exact hP.calm.orderNotice hs
  | killed id => exact same (by rw [kill_frame]; exact ⟨rfl, rfl, fun _ => rfl⟩)
  | written id st st' hst hair hw => exact hs
  | locked id l => exact hs
  | spliced id k m st ls h => exact hP.spliceNoticeAt (hP.spliceNoticeAt (by exact hs) .a id k m _) .b id k m _
  | rearmed id => exact hs
  | loaded c id k st hst hr => exact hs.loaded c _
  | ran c h =>
    obtain ⟨ht, hs1, hs2, -, -, -⟩ := hs.channel c
    exact hs.recomputed c ⟨ht, hs1, hs2, by simp, by simp, fun hl => absurd rfl hl⟩
  | parked c h =>
    obtain ⟨ht, -, -, -, -, -⟩ := hs.channel c
    exact hs.setChannel c ⟨ht, by simp, by simp, by simp, by simp, fun _ => ⟨rfl, rfl⟩⟩
  | unloaded c => exact hP.unload hs c
  | tuned c f curve =>
    obtain ⟨ht, -, -, -, -, hrest⟩ := hs.channel c
    have hl := limitSpeed_bounds ((s.channel c).tuning.tuned f curve) (s.channel c).speed
    exact hs.recomputed c ⟨tuned_bounds ht f curve, hl.1, hl.2.1, by simp, by simp, fun hn =>
      ⟨hl.2.2 (hrest hn).1, rfl⟩⟩
  | channelRead c =>
    have hread : SpeedsBounded (s.modChannel c (fun ch => { ch with
        storyChanged := false, ownerChanged := false, endReached := false, marked := false, mark := none })) :=
      hP.flags hs c rfl rfl (.inl rfl) (.inl rfl)
    unfold statusChannel
    split <;> exact hread
  | stationSet p f lapse hand =>
    split
    · exact hP.calm.reconfigure (by exact hs) p f
    · exact hs
  | stationRead p => exact same (sameMotion_modStation rfl)
  | attached h c => exact hs
  | detached h => exact hs
  | headRead h => exact hs
  | clockSet v => exact hs
  | clockHeld => unfold cmdClockHold; split <;> exact hs
  | clockResumed => unfold cmdClockResume; split <;> exact hs
  | timingRead => exact hs
  | lead c => exact hs
  | output o a width level => exact hs

theorem SpeedsBounded.concluded {s t : State} (hs : SpeedsBounded s) (hc : Concluded s t) : SpeedsBounded t := by
  cases hc with
  | answered u status code payload he =>
    have hu := hs.effect he
    exact hu
  | checking id st hst => exact hs
  | clearing n t ht =>
    subst ht
    exact speedsBounded_soft.unload (speedsBounded_soft.unload (by exact hs) .a) .b
  | recomputing h ha hb => exact hs

theorem SpeedsBounded.startUp {s : State} (hs : SpeedsBounded s) (rate : Strap) : SpeedsBounded (startUp rate s) := by
  unfold Machine.startUp
  split
  · exact hs
  · exact hs

theorem SpeedsBounded.finishClear {s : State} (hs : SpeedsBounded s) : SpeedsBounded (finishClear s) := by
  unfold Machine.finishClear
  split
  · obtain ⟨ha, hb, hp⟩ := hs
    exact ⟨ha, hb, hp⟩
  · exact hs

theorem SpeedsBounded.finishGeometry {s : State} (hs : SpeedsBounded s) : SpeedsBounded (finishGeometry s) := by
  have hP := speedsBounded_soft
  unfold Machine.finishGeometry
  split
  · cases hp : s.pendingHeights with
    | none => simpa [completeGeometry, hp] using hs
    | some heights =>
      rw [completeGeometry_eq hp]
      have hadjusted : SpeedsBounded (Machine.geometryAdjust .b (Machine.geometryAdjust .a (measuredState heights s))) :=
        hP.geometryAdjust (hP.geometryAdjust (by exact hs) .a) .b
      exact hadjusted
  · exact hs

theorem speedsBounded_kept : Kept Always SpeedsBounded where
  unqueue s q hs := hs
  tick s _ hs := hs.same ⟨rfl, rfl, fun p => by rw [tick_station]⟩
  reset s := reset_speeds
  startUp s rate _ hs := hs.startUp rate
  fed s c _ hs := hs
  hunting s _ hs := hs
  slot s code _ hs _ := hs
  misfit s status code _ hs _ := hs
  command cmd s hf _ hs _ := hs.concluded (concluded_take hf s)
  sent s _ hs := by
    unfold gatewaySent
    split
    · split
      · exact hs
      · split <;> exact hs
    · exact hs
  checked s _ hs := by
    unfold finishCheck
    split
    · unfold completeCheck
      split <;> exact hs
    · exact hs
  cleared s _ hs := hs.finishClear
  recomputed s _ hs := hs.finishGeometry
  channelStep s c _ hs := speedsBounded_soft.moves.channelStep speedsBounded_headless hs c
  second s _ hs := by
    unfold countSecond
    split <;> exact hs
  pulse s o _ hs := hs
  stationChar s p c _ hs := speedsBounded_soft.moves.stationChar hs p c
  stationGap s p _ hs := speedsBounded_soft.moves.stationGap hs p
  lapse s p _ hs := speedsBounded_soft.calm.lapse hs p
  answerSent s p _ hs := speedsBounded_soft.moves.answerSent hs p
  headChar s hd c _ hs := speedsBounded_headless.headChar hs hd c
  headGap s hd _ hs := speedsBounded_headless.headGap hs hd
  headSent s hd _ hs := speedsBounded_headless.headSent hs hd

/-- Sections 3.1, 4.1, 4.2 and 8.2.
Settles O57. -/
theorem everyStepKeepsSpeedsWithinLimits : Obligations.EveryStepKeepsSpeedsWithinLimits :=
  fun _ _ hst => speedsBounded_kept.step hst

end Sys2Proof.Machine
end

section
/-! PROOF. The head ports, the operations in flight, the link, the clock and the cue unit stay consistent. -/

namespace Sys2Proof.Machine

/-! ## Effects of commands: movements and settings -/

/-- The effects of the commands that touch more than the store, the pool and the channels. -/
inductive Setting (s : State) : State → Prop where
  | channelRead (c : ChannelId) : Setting s (statusChannel c s).1
  | stationSet (p : Fin 4) (f : StationFields) (lapse hand : Option Nat) :
      Setting s (if f.reconfigures then reconfigure p f { s with
          lapseTime := (lapse.map (clampNat 50 1000)).getD s.lapseTime
          handOff := (hand.map (clampNat 0 5000)).getD s.handOff }
        else { s with
          lapseTime := (lapse.map (clampNat 50 1000)).getD s.lapseTime
          handOff := (hand.map (clampNat 0 5000)).getD s.handOff })
  | stationRead (p : Fin 4) : Setting s (statusStation p s).1
  | attached (h : Fin 4) (c : ChannelId) : Setting s (s.modHead h (attachHead s c))
  | detached (h : Fin 4) : Setting s (s.modHead h Head.detach)
  | headRead (h : Fin 4) : Setting s (statusHead h s).1
  | clockSet (v : Int) : Setting s (cmdClockSet v s).1
  | clockHeld : Setting s (cmdClockHold s).1
  | clockResumed : Setting s (cmdClockResume s).1
  | timingRead : Setting s (cmdTimingRead s).1
  | lead (c : ChannelId) : Setting s { s with cues := { s.cues with lead := c } }
  | output (o : Fin 4) (a : CueAction) (width : Option Nat) (level : Option Level) :
      Setting s (s.modOutput o (fun _ => (s.output o).configured a width level))

/-- The state `t` differs from `s` at most in the store, the pool, the link and the channels. -/
def MovesQuietly (s t : State) : Prop := MovesOnly s t ∧ t.cues = s.cues

theorem MovesQuietly.trans {s t u : State} (h1 : MovesQuietly s t) (h2 : MovesQuietly t u) : MovesQuietly s u :=
  ⟨h1.1.trans h2.1, h2.2.trans h1.2⟩

theorem ChannelsOnly.movesQuietly {s t : State} (h : ChannelsOnly s t) : MovesQuietly s t := ⟨h.movesOnly, by rw [h]⟩

theorem movesQuietly_leave (c : ChannelId) (id : Nat) (kind : LeaveKind) (s : State) :
    MovesQuietly s (leave c id kind s) := ⟨movesOnly_leave c id kind s, leave_cues c id kind s⟩

theorem movesQuietly_modStory (id : Nat) (f : Story → Story) (s : State) : MovesQuietly s (s.modStory id f) := ⟨rfl, rfl⟩

theorem movesQuietly_kill (id : Nat) (s : State) : MovesQuietly s (kill id s).1 := by
  have h := kill_frame id s
  refine ⟨?_, by rw [h]⟩
  unfold MovesOnly
  rw [h]

theorem movesQuietly_enter (c : ChannelId) (id : Nat) (s : State) : MovesQuietly s (enter c id s) :=
  (movesQuietly_modStory id _ s).trans (channelsOnly_modChannel c _ _).movesQuietly

theorem movesQuietly_load (c : ChannelId) (rp : ReadPoint) (s : State) : MovesQuietly s (loadState c rp s) := by
  have hleft : MovesQuietly s (match (s.channel c).readPoint with
      | some old => leave c old.story .neutral s
      | none => s) := by
    split
    · exact movesQuietly_leave c _ _ s
    · exact (ChannelsOnly.refl s).movesQuietly
  exact (((hleft.trans (channelsOnly_modChannel c _ _).movesQuietly).trans (movesQuietly_enter c rp.story _)).trans
    (channelsOnly_modChannel c _ _).movesQuietly).trans (channelsOnly_modChannel c _ _).movesQuietly

theorem movesQuietly_unload (c : ChannelId) (s : State) : MovesQuietly s (unload c s) := by
  unfold unload
  dsimp only
  split
  · exact (ChannelsOnly.refl s).movesQuietly
  · split
    · exact (movesQuietly_leave c _ _ s).trans (channelsOnly_modChannel c _ _).movesQuietly
    · exact (channelsOnly_modChannel c _ s).movesQuietly

theorem Effect.moves_or_sets {s t : State} (he : Effect s t) : MovesQuietly s t ∨ Setting s t := by
  have notices {u : State} (hu : MovesQuietly s u) : MovesQuietly s (orderNotice u) :=
    hu.trans (channelsOnly_orderNotice u).movesQuietly
  cases he with
  | nothing => exact .inl ⟨rfl, rfl⟩
  | inserted id anchor h0 hid hnew hroom => exact .inl (notices ⟨rfl, rfl⟩)
  | moved id anchor st hst => exact .inl (notices ⟨rfl, rfl⟩)
  | floated id st hst hair hf => exact .inl ⟨rfl, rfl⟩
  | restored id st hst hair hf => exact .inl (notices ⟨rfl, rfl⟩)
  | killed id => exact .inl (movesQuietly_kill id s)
  | written id st st' hst hair hw => exact .inl ⟨rfl, rfl⟩
  | locked id l => exact .inl ⟨rfl, rfl⟩
  | spliced id k m st ls h =>
    have hbase : MovesQuietly s { s.modStory id (fun _ => st.spliced s.heights k m ls) with
        freeLines := s.freeLines + m - ls.length } := ⟨rfl, rfl⟩
    exact .inl ((hbase.trans (channelsOnly_spliceNoticeAt .a id k m _ _).movesQuietly).trans
      (channelsOnly_spliceNoticeAt .b id k m _ _).movesQuietly)
  | rearmed id => exact .inl ⟨rfl, rfl⟩
  | loaded c id k st hst hr => exact .inl (movesQuietly_load c _ s)
  | ran c h =>
    exact .inl ((channelsOnly_modChannel c _ s).trans (channelsOnly_recompute c _)).movesQuietly
  | parked c h => exact .inl (channelsOnly_modChannel c _ s).movesQuietly
  | unloaded c => exact .inl (movesQuietly_unload c s)
  | tuned c f curve =>
    exact .inl ((channelsOnly_modChannel c _ s).trans (channelsOnly_recompute c _)).movesQuietly
  | channelRead c => exact .inr (.channelRead c)
  | stationSet p f lapse hand => exact .inr (.stationSet p f lapse hand)
  | stationRead p => exact .inr (.stationRead p)
  | attached h c => exact .inr (.attached h c)
  | detached h => exact .inr (.detached h)
  | headRead h => exact .inr (.headRead h)
  | clockSet v => exact .inr (.clockSet v)
  | clockHeld => exact .inr .clockHeld
  | clockResumed => exact .inr .clockResumed
  | timingRead => exact .inr .timingRead
  | lead c => exact .inr (.lead c)
  | output o a width level => exact .inr (.output o a width level)

/-! ## The head ports (R154, R157, R161) -/

/-- Taking requests fills the answer queue and empties the request queue, as far as there is room (R157). -/
theorem takeRequests_spec (s : State) (rs : List Request) :
    ∀ as : List FetchAnswer, as.length ≤ 2 →
      (takeRequests s rs as).1.length ≤ rs.length ∧ (takeRequests s rs as).2.length ≤ 2
        ∧ ((takeRequests s rs as).1 ≠ [] → (takeRequests s rs as).2.length = 2)
        ∧ as.length ≤ (takeRequests s rs as).2.length := by
  induction rs with
  | nil =>
    intro as h
    exact ⟨Nat.le_refl _, h, fun hne => absurd rfl hne, Nat.le_refl _⟩
  | cons r rs ih =>
    intro as h
    rw [takeRequests]
    split
    · rename_i hlt
      obtain ⟨h1, h2, h3, h4⟩ := ih (as ++ [formAnswer s r]) (by rw [List.length_append]; exact hlt)
      rw [List.length_append] at h4
      exact ⟨Nat.le_trans h1 (Nat.le_succ _), h2, h3, Nat.le_trans (Nat.le_add_right _ _) h4⟩
    · rename_i hge
      exact ⟨Nat.le_refl _, h, fun _ => by simp only; omega, Nat.le_refl _⟩

/-- A port whose queues are within their bounds. -/
abbrev Head.Bounded (h : Head) : Prop := h.requests.length ≤ 2 ∧ h.answers.length ≤ 2 ∧ h.attachment ≠ none

/-- Of a port within its bounds: the requests that wait do so behind two answers. -/
theorem Head.takeAll_bounded (s : State) {h : Head} (hb : h.Bounded) :
    (h.takeAll s).Bounded ∧ ((h.takeAll s).requests ≠ [] → (h.takeAll s).answers.length = 2) := by
  obtain ⟨hr, ha, hatt⟩ := hb
  obtain ⟨h1, h2, h3, -⟩ := takeRequests_spec s h.requests h.answers ha
  exact ⟨⟨Nat.le_trans h1 hr, h2, hatt⟩, h3⟩

/-- The idle transmitter stays idle only when nothing waits (R161). -/
theorem Head.start_spec {h : Head} (hb : h.Bounded) :
    h.start.Bounded ∧ (h.start.sending = none →
      h.start = h ∧ h.answers = [] ∧ h.waitingPos = none ∧ h.pendingGeom = none) := by
  obtain ⟨att, rqs, as, wp, pg, lk, ov, sd, rx, gap⟩ := h
  obtain ⟨hr, ha, hatt⟩ := hb
  cases sd with
  | some f => exact ⟨⟨hr, ha, hatt⟩, fun hn => nomatch hn⟩
  | none =>
    cases as with
    | nil =>
      cases pg with
      | some g => exact ⟨⟨hr, ha, hatt⟩, fun hn => nomatch hn⟩
      | none =>
        cases wp with
        | some f => exact ⟨⟨hr, ha, hatt⟩, fun hn => nomatch hn⟩
        | none => exact ⟨⟨hr, ha, hatt⟩, fun _ => ⟨rfl, rfl, rfl, rfl⟩⟩
    | cons a rest =>
      have hrest : rest.length ≤ 2 := by simp only [List.length_cons] at ha; omega
      cases pg with
      | some g =>
        cases lk with
        | answer => exact ⟨⟨hr, ha, hatt⟩, fun hn => nomatch hn⟩
        | position => exact ⟨⟨hr, hrest, hatt⟩, fun hn => nomatch hn⟩
      | none =>
        cases wp with
        | some f =>
          cases lk with
          | answer => exact ⟨⟨hr, ha, hatt⟩, fun hn => nomatch hn⟩
          | position => exact ⟨⟨hr, hrest, hatt⟩, fun hn => nomatch hn⟩
        | none => exact ⟨⟨hr, hrest, hatt⟩, fun hn => nomatch hn⟩

/-- What joins an attached port leaves it consistent (R157, R161). -/
theorem Head.pump_consistent (s : State) {h : Head} (hb : h.Bounded) : HeadConsistent (h.pump s) := by
  obtain ⟨hb1, hfull1⟩ := Head.takeAll_bounded s hb
  obtain ⟨hb2, hidle⟩ := Head.start_spec hb1
  obtain ⟨⟨hr, ha, hatt⟩, hfull⟩ := Head.takeAll_bounded s hb2
  refine ⟨hr, ha, hfull, fun hn => ?_, fun hn => absurd hn hatt⟩
  obtain ⟨hsame, hanswers, hpos, hgeom⟩ := hidle hn
  have hnone : (h.takeAll s).requests ≠ [] → (h.takeAll s).answers.length = 2 := hfull1
  have hpump : h.pump s = h.takeAll s := by
    rw [Head.pump, hsame]
    exact Head.takeAll_eq_self hnone
  rw [hpump]
  exact ⟨hanswers, hpos, hgeom⟩

theorem HeadConsistent.offerPosition (s : State) (f : PosFrame) {h : Head} (hc : HeadConsistent h)
    (hatt : h.attachment ≠ none) : HeadConsistent (offerPosition s f h) :=
  Head.pump_consistent s ⟨hc.1, hc.2.1, hatt⟩

theorem HeadConsistent.queueGeometry (s : State) (g : Heights) {h : Head} (hc : HeadConsistent h)
    (hatt : h.attachment ≠ none) : HeadConsistent (queueGeometry s g h) :=
  Head.pump_consistent s ⟨hc.1, hc.2.1, hatt⟩

theorem HeadConsistent.acceptFetch (s : State) (r : Request) {h : Head} (hc : HeadConsistent h) :
    HeadConsistent (acceptFetch s r h) := by
  unfold Machine.acceptFetch
  split
  · exact hc
  · rename_i hatt
    split
    · exact Head.pump_consistent s ⟨by simp only [List.length_append, List.length_singleton]; omega, hc.2.1, hatt⟩
    · exact hc

theorem Head.detach_consistent (h : Head) : HeadConsistent h.detach :=
  ⟨Nat.zero_le _, Nat.zero_le _, fun hn => absurd rfl hn, fun _ => ⟨rfl, rfl, rfl⟩, fun _ => ⟨rfl, rfl, rfl, rfl⟩⟩

theorem HeadConsistent.attach (s : State) (c : ChannelId) {h : Head} (hc : HeadConsistent h) :
    HeadConsistent (attachHead s c h) :=
  Head.pump_consistent s ⟨hc.1, hc.2.1, fun hn => nomatch hn⟩

theorem HeadConsistent.sent (s : State) {h : Head} (hc : HeadConsistent h) :
    HeadConsistent (Head.pump s { h with sending := none }) := by
  obtain ⟨hr, ha, hfull, hidle, hdet⟩ := hc
  cases hatt : h.attachment with
  | none =>
    obtain ⟨h1, h2, h3, h4⟩ := hdet hatt
    obtain ⟨att, rqs, as, wp, pg, lk, ov, sd, rx, gap⟩ := h
    cases hatt
    cases h1
    cases h2
    cases h3
    cases h4
    exact ⟨Nat.zero_le _, Nat.zero_le _, fun hn => absurd rfl hn, fun _ => ⟨rfl, rfl, rfl⟩, fun _ => ⟨rfl, rfl, rfl, rfl⟩⟩
  | some c => exact Head.pump_consistent s ⟨hr, ha, by simp⟩

/-- Every head port is consistent, by port number. -/
theorem headsConsistent_iff (s : State) : HeadsConsistent s ↔ ∀ h, HeadConsistent (s.head h) :=
  ⟨fun hs h => hs h (mem_ports h), fun hs h _ => hs h⟩

theorem HeadsConsistent.same {s t : State} (hs : HeadsConsistent s) (h : t.heads = s.heads) : HeadsConsistent t := by
  intro q hq
  rw [State.head, h]
  exact hs q hq

theorem HeadsConsistent.modHead {s : State} (hs : HeadsConsistent s) (h : Fin 4) {f : Head → Head}
    (hf : HeadConsistent (f (s.head h))) : HeadsConsistent (s.modHead h f) := by
  rw [headsConsistent_iff] at hs ⊢
  intro q
  by_cases hq : q = h
  · subst hq
    rwa [State.modHead_same]
  · rw [State.modHead_other s hq]
    exact hs q

theorem HeadsConsistent.map {s : State} (hs : HeadsConsistent s) {f : Head → Head}
    (hf : ∀ h, HeadConsistent h → HeadConsistent (f h)) : HeadsConsistent { s with heads := s.heads.map f } := by
  intro q hq
  have := hf _ (hs q hq)
  simpa [State.head] using this

/-- The stations, the arbiter and the motions of the channels keep the head ports (Sections 3, 8, 9). -/
theorem soft_heads (v : Vector Head 4) : Soft (fun t => t.heads = v) where
  station s p f h _ := h
  marks s c h := h
  arbiter s c r h := by rwa [State.setArbiter_heads]
  tuned s c ch h _ := by rwa [State.setChannel_heads]
  emptied s c ch h _ := by rwa [State.setChannel_heads]
  left s c id kind h := by rw [leave_frame]; exact h
  entered s c id h := h
  reported s c id k h := by rw [movesOnly_reportLine c id k s]; exact h

theorem Setting.heads_or {s t : State} (h : Setting s t) :
    t.heads = s.heads ∨ ∃ q f, (∀ x, HeadConsistent x → HeadConsistent (f x)) ∧ t = s.modHead q f := by
  cases h with
  | channelRead c =>
    refine .inl ?_
    unfold statusChannel
    split <;> exact State.modChannel_heads s c _
  | stationSet p f lapse hand =>
    refine .inl ?_
    split
    · rw [arbitersOnly_reconfigure p f _]
    · rfl
  | stationRead p => exact .inl rfl
  | attached q c => exact .inr ⟨q, _, fun x hx => hx.attach s c, rfl⟩
  | detached q => exact .inr ⟨q, _, fun x _ => x.detach_consistent, rfl⟩
  | headRead q => exact .inr ⟨q, fun hd => { hd with overrun := false }, fun x hx => hx, rfl⟩
  | clockSet v => exact .inl rfl
  | clockHeld => exact .inl (by unfold cmdClockHold; split <;> rfl)
  | clockResumed => exact .inl (by unfold cmdClockResume; split <;> rfl)
  | timingRead => exact .inl rfl
  | lead c => exact .inl rfl
  | output o a width level => exact .inl rfl

theorem HeadsConsistent.concluded {s t : State} (hs : HeadsConsistent s) (hc : Concluded s t) : HeadsConsistent t := by
  cases hc with
  | answered u status code payload he =>
    have hu : HeadsConsistent u := by
      rcases he.moves_or_sets with hm | hm
      · exact hs.same (by rw [hm.1])
      · rcases hm.heads_or with h | ⟨q, f, hf, rfl⟩
        · exact hs.same h
        · exact hs.modHead q (hf _ (hs q (mem_ports q)))
    exact hu.same rfl
  | checking id st hst => exact hs.same rfl
  | clearing n u ht =>
    refine hs.same ?_
    rw [ht]
    exact (soft_heads s.heads).unload ((soft_heads s.heads).unload (s := { s with clearInProgress := true }) rfl .a) .b
  | recomputing h ha hb => exact hs.same rfl

theorem HeadsConsistent.headChar {s : State} (hs : HeadsConsistent s) (hd : Fin 4) (c : LineChar) :
    HeadsConsistent (headChar hd c s) := by
  have hfed (rx : PortRx) : HeadsConsistent (s.modHead hd (fun x => { x with rx := rx, gap := rx.gapTimer })) :=
    hs.modHead hd (hs hd (mem_ports hd))
  unfold Machine.headChar
  split
  · exact hs
  · dsimp only
    split
    · exact hfed _
    · exact hfed _
    · unfold completeFetch
      split
      · exact hfed _
      · split
        · exact hfed _
        · exact (hfed _).modHead hd (HeadConsistent.acceptFetch _ _ (hfed _ hd (mem_ports hd)))

theorem HeadsConsistent.channelStep {s : State} (hs : HeadsConsistent s) (c : ChannelId) :
    HeadsConsistent (channelStep c s) := by
  have hmoved : HeadsConsistent (if (s.channel c).state = .live then rampAndMove c s else s) := by
    split
    · exact hs.same (by rw [movesOnly_rampAndMove c s])
    · exact hs
  unfold Machine.channelStep
  split
  · exact hs
  · refine hmoved.map fun x hx => ?_
    split
    · rename_i ha
      exact hx.offerPosition _ _ (by simp [ha])
    · exact hx

theorem HeadsConsistent.finishGeometry {s : State} (hs : HeadsConsistent s) : HeadsConsistent (finishGeometry s) := by
  unfold Machine.finishGeometry
  split
  · cases hp : s.pendingHeights with
    | none => simpa [completeGeometry, hp] using hs
    | some h =>
      rw [completeGeometry_eq hp]
      have hadj : HeadsConsistent (geometryAdjust .b (geometryAdjust .a (measuredState h s))) :=
        hs.same ((soft_heads s.heads).geometryAdjust
          ((soft_heads s.heads).geometryAdjust (s := measuredState h s) rfl .a) .b)
      refine HeadsConsistent.same (hadj.map fun x hx => ?_) rfl
      split
      · rename_i ha
        exact hx.queueGeometry _ _ ha
      · exact hx
  · exact hs

theorem headsConsistent_kept : Kept Always HeadsConsistent where
  unqueue s q hs := hs.same rfl
  tick s _ hs := hs.map fun _ hx => hx
  reset s := show HeadsConsistent State.held by decide
  startUp s rate _ hs := by
    unfold startUp
    split
    · exact hs
    · exact hs.same rfl
  fed s c _ hs := hs.same rfl
  hunting s _ hs := hs.same rfl
  slot s code _ hs _ := hs.same rfl
  misfit s status code _ hs _ := hs.same rfl
  command cmd s hf _ hs _ := hs.concluded (concluded_take hf s)
  sent s _ hs := by
    refine hs.same ?_
    unfold gatewaySent
    split
    · split
      · rfl
      · split <;> rfl
    · rfl
  checked s _ hs := by
    refine hs.same ?_
    unfold finishCheck
    split
    · unfold completeCheck
      split <;> rfl
    · rfl
  cleared s _ hs := by
    refine hs.same ?_
    unfold finishClear
    split <;> rfl
  recomputed s _ hs := hs.finishGeometry
  channelStep s c _ hs := hs.channelStep c
  second s _ hs := by
    refine hs.same ?_
    unfold countSecond
    split <;> rfl
  pulse s o _ hs := hs.same rfl
  stationChar s p c _ hs := hs.same ((soft_heads s.heads).moves.stationChar rfl p c)
  stationGap s p _ hs := hs.same ((soft_heads s.heads).moves.stationGap rfl p)
  lapse s p _ hs := hs.same ((soft_heads s.heads).calm.lapse rfl p)
  answerSent s p _ hs := hs.same rfl
  headChar s hd c _ hs := hs.headChar hd c
  headGap s hd _ hs := hs.modHead hd (hs hd (mem_ports hd))
  headSent s hd _ hs := by
    unfold headSent
    split
    · exact hs
    · exact hs.modHead hd (HeadConsistent.sent s (hs hd (mem_ports hd)))

/-! ## The clock (R97 to R102) -/

theorem ClockBounded.same {s t : State} (hs : ClockBounded s) (h : t.clock = s.clock) : ClockBounded t := by
  simpa only [ClockBounded, h] using hs

theorem clampInt_bounds {lo hi : Int} (h : lo ≤ hi) (x : Int) : lo ≤ clampInt lo hi x ∧ clampInt lo hi x ≤ hi := by
  unfold clampInt
  omega

/-- The stations, the arbiter and the motions of the channels keep the clock. -/
theorem soft_clock (v : Clock) : Soft (fun t => t.clock = v) where
  station s p f h _ := h
  marks s c h := h
  arbiter s c r h := by rwa [State.setArbiter_clock]
  tuned s c ch h _ := by rwa [State.setChannel_clock]
  emptied s c ch h _ := by rwa [State.setChannel_clock]
  left s c id kind h := by rw [leave_frame]; exact h
  entered s c id h := h
  reported s c id k h := by rw [movesOnly_reportLine c id k s]; exact h

theorem ClockBounded.hold {s : State} (hs : ClockBounded s) : ClockBounded (cmdClockHold s).1 := by
  obtain ⟨h1, h2, -⟩ := id hs
  unfold cmdClockHold
  split
  · exact hs
  · exact ⟨h1, h2, by simp [okay]⟩

theorem ClockBounded.resume {s : State} (hs : ClockBounded s) : ClockBounded (cmdClockResume s).1 := by
  obtain ⟨h1, h2, -⟩ := id hs
  unfold cmdClockResume
  split
  · exact hs
  · exact ⟨h1, h2, by simp [okay]⟩

theorem ClockBounded.set (v : Int) (s : State) : ClockBounded (cmdClockSet v s).1 := by
  obtain ⟨h1, h2⟩ := clampInt_bounds (lo := 0) (hi := 35999) (by decide) v
  exact ⟨by simp only [cmdClockSet, okay]; omega, h2, by simp [cmdClockSet, okay]⟩

theorem ClockBounded.countSecond {s : State} (hs : ClockBounded s) : ClockBounded (countSecond s) := by
  obtain ⟨h1, h2, -⟩ := id hs
  unfold Machine.countSecond
  split
  · exact hs
  · rename_i hc
    exact ⟨by simp only; omega, by simp only; omega, by simp [hc]⟩

theorem ClockBounded.setting {s t : State} (hs : ClockBounded s) (h : Setting s t) : ClockBounded t := by
  cases h with
  | channelRead c =>
    refine hs.same ?_
    unfold statusChannel
    split <;> exact State.modChannel_clock s c _
  | stationSet p f lapse hand =>
    refine hs.same ?_
    split
    · rw [arbitersOnly_reconfigure p f _]
    · rfl
  | stationRead p => exact hs
  | attached q c => exact hs
  | detached q => exact hs
  | headRead q => exact hs
  | clockSet v => exact .set v s
  | clockHeld => exact hs.hold
  | clockResumed => exact hs.resume
  | timingRead => exact hs
  | lead c => exact hs
  | output o a width level => exact hs

theorem ClockBounded.concluded {s t : State} (hs : ClockBounded s) (hc : Concluded s t) : ClockBounded t := by
  cases hc with
  | answered u status code payload he =>
    have hu : ClockBounded u := by
      rcases he.moves_or_sets with hm | hm
      · exact hs.same (by rw [hm.1])
      · exact hs.setting hm
    exact hu
  | checking id st hst => exact hs
  | clearing n u ht =>
    refine hs.same ?_
    rw [ht]
    exact (soft_clock s.clock).unload ((soft_clock s.clock).unload (s := { s with clearInProgress := true }) rfl .a) .b
  | recomputing h ha hb => exact hs

/-! ## The cue unit (R111 to R117) -/

/-- The ranges of one output: a running pulse holds its line HIGH (R112). -/
abbrev OutputBounded (o : CueOutput) : Prop :=
  10 ≤ o.width ∧ o.width ≤ 250 ∧ (o.pulse.isSome = true → o.level = .high)

theorem cuesBounded_iff (s : State) : CuesBounded s ↔ s.cues.count ≤ 255 ∧ ∀ o, OutputBounded (s.output o) :=
  ⟨fun hs => ⟨hs.1, fun o => hs.2 o (mem_ports o)⟩, fun hs => ⟨hs.1, fun o _ => hs.2 o⟩⟩

theorem CuesBounded.same {s t : State} (hs : CuesBounded s) (h : t.cues = s.cues) : CuesBounded t := by
  simpa only [CuesBounded, State.output, h] using hs

theorem CuesBounded.modOutput {s : State} (hs : CuesBounded s) (o : Fin 4) {f : CueOutput → CueOutput}
    (hf : OutputBounded (f (s.output o))) : CuesBounded (s.modOutput o f) := by
  rw [cuesBounded_iff] at hs ⊢
  refine ⟨hs.1, fun q => ?_⟩
  by_cases hq : q = o
  · subst hq
    rwa [State.modOutput_same]
  · rw [State.modOutput_other s hq]
    exact hs.2 q

theorem CuesBounded.output {s : State} (hs : CuesBounded s) (o : Fin 4) : OutputBounded (s.output o) :=
  hs.2 o (mem_ports o)

theorem OutputBounded.fire {o : CueOutput} (h : OutputBounded o) : OutputBounded o.fire := by
  obtain ⟨h1, h2, -⟩ := h
  unfold CueOutput.fire
  split
  · exact ⟨h1, h2, fun _ => rfl⟩
  · exact ⟨h1, h2, fun hp => nomatch hp⟩
  · exact ⟨h1, h2, fun hp => nomatch hp⟩
  · exact ⟨h1, h2, fun hp => nomatch hp⟩

theorem OutputBounded.expire {o : CueOutput} (h : OutputBounded o) : OutputBounded o.expire := by
  unfold CueOutput.expire
  split
  · exact h
  · exact ⟨h.1, h.2.1, fun hp => nomatch hp⟩

theorem OutputBounded.configured {o : CueOutput} (h : OutputBounded o) (a : CueAction) (width : Option Nat)
    (level : Option Level) : OutputBounded (o.configured a width level) := by
  obtain ⟨h1, h2, h3⟩ := h
  have hw := clampedField_bounds ⟨h1, h2⟩ width
  refine ⟨hw.1, hw.2, ?_⟩
  unfold CueOutput.configured
  split
  · exact fun hp => nomatch hp
  · rename_i hkeep
    simp only [not_or, Bool.not_eq_true, Option.isSome_eq_false_iff, Option.isNone_iff_eq_none] at hkeep
    rw [hkeep.1]
    exact h3

theorem CuesBounded.fireCue {s : State} (hs : CuesBounded s) (id k : Nat) (cue : Fin 5) (o : Fin 4) :
    CuesBounded (fireCue id k cue o s) := by
  have hout := hs.modOutput o (hs.output o).fire
  exact ⟨Nat.min_le_left _ _, hout.2⟩

theorem cuesBounded_soft : Soft CuesBounded where
  station s p f hs _ := hs
  marks s c hs := hs
  arbiter s c r hs := hs.same (State.setArbiter_cues s c r)
  tuned s c ch hs _ := hs.same (State.setChannel_cues s c ch)
  emptied s c ch hs _ := hs.same (State.setChannel_cues s c ch)
  left s c id kind hs := hs.same (leave_cues c id kind s)
  entered s c id hs := hs
  reported s c id k hs := by
    rcases reportLine_cases c id k s with h | ⟨_, l, o, _, _, _, h⟩ <;> rw [h]
    · exact hs
    · exact hs.fireCue id k l.cue o

theorem CuesBounded.setting {s t : State} (hs : CuesBounded s) (h : Setting s t) : CuesBounded t := by
  cases h with
  | channelRead c =>
    have hread (f : Channel → Channel) : CuesBounded (s.modChannel c f) := hs.same (State.modChannel_cues s c f)
    unfold statusChannel
    split
    · exact ⟨Nat.zero_le _, (hread _).2⟩
    · exact hread _
  | stationSet p f lapse hand =>
    refine hs.same ?_
    split
    · rw [arbitersOnly_reconfigure p f _]
    · rfl
  | stationRead p => exact hs
  | attached q c => exact hs
  | detached q => exact hs
  | headRead q => exact hs
  | clockSet v => exact hs
  | clockHeld => unfold cmdClockHold; split <;> exact hs
  | clockResumed => unfold cmdClockResume; split <;> exact hs
  | timingRead => exact hs
  | lead c => exact hs
  | output o a width level => exact hs.modOutput o ((hs.output o).configured a width level)

theorem CuesBounded.concluded {s t : State} (hs : CuesBounded s) (hc : Concluded s t) : CuesBounded t := by
  cases hc with
  | answered u status code payload he =>
    have hu : CuesBounded u := by
      rcases he.moves_or_sets with hm | hm
      · exact hs.same hm.2
      · exact hs.setting hm
    exact hu
  | checking id st hst => exact hs
  | clearing n u ht =>
    have hu : CuesBounded u := by
      rw [ht]
      exact cuesBounded_soft.unload (cuesBounded_soft.unload (s := { s with clearInProgress := true }) hs .a) .b
    exact hu
  | recomputing h ha hb => exact hs

theorem CuesBounded.tick {s : State} (hs : CuesBounded s) : CuesBounded (tick s) := by
  rw [cuesBounded_iff] at hs ⊢
  refine ⟨hs.1, fun o => ?_⟩
  obtain ⟨h1, h2, h3⟩ := hs.2 o
  rw [tick_output]
  exact ⟨h1, h2, fun hp => h3 (by simpa [Timer.tick] using hp)⟩

theorem showSound_soft : Soft ShowSound where
  station s p f hs _ := hs
  marks s c hs := hs
  arbiter s c r hs := ⟨hs.1.same (State.setArbiter_clock s c r), cuesBounded_soft.arbiter s c r hs.2⟩
  tuned s c ch hs h := ⟨hs.1.same (State.setChannel_clock s c ch), cuesBounded_soft.tuned s c ch hs.2 h⟩
  emptied s c ch hs h := ⟨hs.1.same (State.setChannel_clock s c ch), cuesBounded_soft.emptied s c ch hs.2 h⟩
  left s c id kind hs := ⟨hs.1.same (by rw [leave_frame]), cuesBounded_soft.left s c id kind hs.2⟩
  entered s c id hs := hs
  reported s c id k hs :=
    ⟨hs.1.same (by rw [movesOnly_reportLine c id k s]), cuesBounded_soft.reported s c id k hs.2⟩

theorem showSound_headless : Headless ShowSound := fun _ _ hs => hs

theorem ShowSound.finishClear {s : State} (hs : ShowSound s) : ShowSound (finishClear s) := by
  obtain ⟨hclock, hcues⟩ := id hs
  unfold Machine.finishClear
  split
  · exact ⟨hclock, Nat.zero_le _, hcues.2⟩
  · exact hs

theorem ShowSound.finishGeometry {s : State} (hs : ShowSound s) : ShowSound (finishGeometry s) := by
  unfold Machine.finishGeometry
  split
  · cases hp : s.pendingHeights with
    | none => simpa [completeGeometry, hp] using hs
    | some h =>
      rw [completeGeometry_eq hp]
      have hadj : ShowSound (geometryAdjust .b (geometryAdjust .a (measuredState h s))) :=
        showSound_soft.geometryAdjust (showSound_soft.geometryAdjust (s := measuredState h s) hs .a) .b
      exact hadj
  · exact hs

theorem showSound_kept : Kept Always ShowSound where
  unqueue s q hs := hs
  tick s _ hs := ⟨⟨hs.1.1, hs.1.2.1, by simpa [Machine.tick, Timer.tick] using hs.1.2.2⟩, hs.2.tick⟩
  reset s := show ShowSound State.held by decide
  startUp s rate _ hs := by
    unfold startUp
    split <;> exact hs
  fed s c _ hs := hs
  hunting s _ hs := hs
  slot s code _ hs _ := hs
  misfit s status code _ hs _ := hs
  command cmd s hf _ hs _ := ⟨hs.1.concluded (concluded_take hf s), hs.2.concluded (concluded_take hf s)⟩
  sent s _ hs := by
    unfold gatewaySent
    split
    · split
      · exact hs
      · split <;> exact hs
    · exact hs
  checked s _ hs := by
    unfold finishCheck
    split
    · unfold completeCheck
      split <;> exact hs
    · exact hs
  cleared s _ hs := hs.finishClear
  recomputed s _ hs := hs.finishGeometry
  channelStep s c _ hs := showSound_soft.moves.channelStep showSound_headless hs c
  second s _ hs := ⟨hs.1.countSecond, hs.2.same (by unfold countSecond; split <;> rfl)⟩
  pulse s o _ hs := ⟨hs.1, hs.2.modOutput o (hs.2.output o).expire⟩
  stationChar s p c _ hs := showSound_soft.moves.stationChar hs p c
  stationGap s p _ hs := showSound_soft.moves.stationGap hs p
  lapse s p _ hs := showSound_soft.calm.lapse hs p
  answerSent s p _ hs := hs
  headChar s hd c _ hs := showSound_headless.headChar hs hd c
  headGap s hd _ hs := hs
  headSent s hd _ hs := showSound_headless.headSent hs hd

end Sys2Proof.Machine
end

section
/-! PROOF. The link and the operations in flight agree (R163, R168, R169; R19, R29, R38, R41). -/

namespace Sys2Proof.Machine

/-! ## A link at rest -/

/-- No operation is in flight: the link is IDLE and no story is being checked. -/
abbrev Quiet (s : State) : Prop := s.link.state = .idle ∧ ∀ st ∈ s.stories, st.checkInFlight = false

/-- Every story of `t` that is not one of `s` is unchecked. -/
theorem Quiet.of_mem {s t : State} (hs : Quiet s) (hlink : t.link.state = s.link.state)
    (h : ∀ x ∈ t.stories, x ∈ s.stories ∨ x.checkInFlight = false) : Quiet t :=
  ⟨hlink.trans hs.1, fun x hx => (h x hx).elim (hs.2 x) (fun e => e)⟩

theorem Quiet.same {s t : State} (hs : Quiet s) (hlink : t.link = s.link) (hstories : t.stories = s.stories) :
    Quiet t :=
  hs.of_mem (by rw [hlink]) fun x hx => .inl (hstories ▸ hx)

theorem Quiet.modStory {s : State} (hs : Quiet s) (id : Nat) {f : Story → Story}
    (hf : ∀ x, x.checkInFlight = false → (f x).checkInFlight = false) : Quiet (s.modStory id f) := by
  refine ⟨hs.1, fun y hy => ?_⟩
  obtain ⟨x, hx, rfl⟩ := List.mem_map.mp hy
  split
  · exact hf x (hs.2 x hx)
  · exact hs.2 x hx

theorem Quiet.retire {s : State} (hs : Quiet s) (id : Nat) : Quiet (retire id s) := by
  cases h : s.story? id with
  | none => rwa [retire_absent h]
  | some st =>
    refine hs.of_mem (by rw [retire_link_idle id hs.1]) fun x hx => .inl ?_
    exact mem_of_mem_removeStory ((retire_live h).1 ▸ hx)

theorem Quiet.kill {s : State} (hs : Quiet s) (id : Nat) : Quiet (kill id s).1 := by
  cases h : s.story? id with
  | none => simpa [Machine.kill, h] using hs
  | some st =>
    rcases kill_cases h with ⟨-, e⟩ | ⟨-, -, e⟩ | ⟨-, -, e⟩ <;> rw [e]
    · exact hs.retire id
    · exact hs
    · exact hs.modStory id (f := fun x => { x with air := .doomed }) fun _ hx => hx

theorem Story.left_checkInFlight (c : ChannelId) (kind : LeaveKind) (lead : Bool) (st : Story) :
    (st.left c kind lead).checkInFlight = st.checkInFlight := by
  rw [Story.left_eq]
  cases c <;> rfl

theorem Story.setOpen_checkInFlight (c : ChannelId) (v : Bool) (st : Story) :
    (st.setOpen c v).checkInFlight = st.checkInFlight := by cases c <;> rfl

theorem quiet_soft : Soft Quiet where
  station s p f hs _ := hs
  marks s c hs := hs
  arbiter s c r hs := hs.same (State.setArbiter_link s c r) (State.setArbiter_stories s c r)
  tuned s c ch hs _ := hs.same (State.setChannel_link s c ch) (State.setChannel_stories s c ch)
  emptied s c ch hs _ := hs.same (State.setChannel_link s c ch) (State.setChannel_stories s c ch)
  left s c id kind hs := leave_keeps c id kind hs
    (hs.modStory id fun x hx => by rwa [Story.left_checkInFlight]) (fun _ hu => hu.retire id) (fun _ hu => hu.kill id)
  entered s c id hs := hs.modStory id fun x hx => by rwa [Story.setOpen_checkInFlight]
  reported s c id k hs := by
    rcases reportLine_cases c id k s with h | ⟨_, l, o, _, _, _, h⟩ <;> rw [h]
    · exact hs
    · exact (hs.modStory id (f := fun st => { st with
        lines := st.lines.modify (k - 1) (fun l => { l with fired := true }) }) fun _ hx => hx)

theorem Setting.link_and_stories {s t : State} (h : Setting s t) :
    t.link = s.link ∧ t.stories = s.stories ∧ t.clearInProgress = s.clearInProgress
      ∧ t.pendingHeights = s.pendingHeights := by
  cases h with
  | channelRead c =>
    unfold statusChannel
    split <;> cases c <;> exact ⟨rfl, rfl, rfl, rfl⟩
  | stationSet p f lapse hand =>
    split
    · rw [arbitersOnly_reconfigure p f _]
      exact ⟨rfl, rfl, rfl, rfl⟩
    · exact ⟨rfl, rfl, rfl, rfl⟩
  | stationRead p => exact ⟨rfl, rfl, rfl, rfl⟩
  | attached q c => exact ⟨rfl, rfl, rfl, rfl⟩
  | detached q => exact ⟨rfl, rfl, rfl, rfl⟩
  | headRead q => exact ⟨rfl, rfl, rfl, rfl⟩
  | clockSet v => exact ⟨rfl, rfl, rfl, rfl⟩
  | clockHeld => unfold cmdClockHold; split <;> exact ⟨rfl, rfl, rfl, rfl⟩
  | clockResumed => unfold cmdClockResume; split <;> exact ⟨rfl, rfl, rfl, rfl⟩
  | timingRead => exact ⟨rfl, rfl, rfl, rfl⟩
  | lead c => exact ⟨rfl, rfl, rfl, rfl⟩
  | output o a width level => exact ⟨rfl, rfl, rfl, rfl⟩

theorem Quiet.channelsOnly {s t : State} (hs : Quiet s) (h : ChannelsOnly s t) : Quiet t :=
  hs.same (by rw [h]) (by rw [h])

/-- Every effect of a command leaves a link at rest at rest. -/
theorem Quiet.effect {s t : State} (hs : Quiet s) (he : Effect s t) : Quiet t := by
  have setting {u : State} (h : Setting s u) : Quiet u := hs.same h.link_and_stories.1 h.link_and_stories.2.1
  cases he with
  | nothing => exact hs
  | inserted id anchor h0 hid hnew hroom =>
    have hin : Quiet { s with stories := insertAfter anchor (Story.create id s.heights.slugBand) s.stories } := by
      refine hs.of_mem rfl fun x hx => ?_
      rcases List.mem_cons.mp ((insertAfter_perm anchor _ _).mem_iff.mp hx) with rfl | hx
      · exact .inr rfl
      · exact .inl hx
    exact hin.channelsOnly (channelsOnly_orderNotice _)
  | moved id anchor st hst =>
    have hin : Quiet { s with stories := insertAfter anchor st (removeStory id s.stories) } := by
      refine hs.of_mem rfl fun x hx => .inl ?_
      rcases List.mem_cons.mp ((insertAfter_perm anchor _ _).mem_iff.mp hx) with rfl | hx
      · exact State.story?_mem hst
      · exact mem_of_mem_removeStory hx
    exact hin.channelsOnly (channelsOnly_orderNotice _)
  | floated id st hst hair hf => exact (hs.modStory id (f := fun x => { x with floated := true }) fun _ hx => hx)
  | restored id st hst hair hf =>
    have h : Quiet { s.modStory id (fun x => { x with floated := false }) with pt := s.pt + st.seconds } :=
      hs.modStory id (f := fun x => { x with floated := false }) fun _ hx => hx
    exact h.channelsOnly (channelsOnly_orderNotice _)
  | killed id => exact hs.kill id
  | written id st st' hst hair hw =>
    have hcheck : st'.checkInFlight = false := by
      rw [hw.1]
      exact hs.2 st (State.story?_mem hst)
    exact hs.modStory id (f := fun _ => st') fun _ _ => hcheck
  | locked id l => exact hs.modStory id fun _ hx => hx
  | spliced id k m st ls h =>
    have hcheck : st.checkInFlight = false := hs.2 st (State.story?_mem h.live)
    have hbase : Quiet { s.modStory id (fun _ => st.spliced s.heights k m ls) with
        freeLines := s.freeLines + m - ls.length } :=
      hs.modStory id (f := fun _ => st.spliced s.heights k m ls) fun _ _ => hcheck
    exact (hbase.channelsOnly (channelsOnly_spliceNoticeAt .a id k m _ _)).channelsOnly
      (channelsOnly_spliceNoticeAt .b id k m _ _)
  | rearmed id => exact hs.modStory id fun _ hx => hx
  | loaded c id k st hst hr =>
    have hleft : Quiet (match (s.channel c).readPoint with
        | some old => leave c old.story .neutral s
        | none => s) := by
      split
      · exact quiet_soft.left s c _ _ hs
      · exact hs
    exact (quiet_soft.calm.atRest (quiet_soft.enter (quiet_soft.place hleft c _) c _) c).channelsOnly
      (channelsOnly_modChannel c _ _)
  | ran c h => exact (hs.channelsOnly (channelsOnly_modChannel c _ s)).channelsOnly (channelsOnly_recompute c _)
  | parked c h => exact hs.channelsOnly (channelsOnly_modChannel c _ s)
  | unloaded c => exact quiet_soft.unload hs c
  | tuned c f curve => exact (hs.channelsOnly (channelsOnly_modChannel c _ s)).channelsOnly (channelsOnly_recompute c _)
  | channelRead c => exact setting (.channelRead c)
  | stationSet p f lapse hand => exact setting (.stationSet p f lapse hand)
  | stationRead p => exact setting (.stationRead p)
  | attached h c => exact setting (.attached h c)
  | detached h => exact setting (.detached h)
  | headRead h => exact setting (.headRead h)
  | clockSet v => exact setting (.clockSet v)
  | clockHeld => exact setting .clockHeld
  | clockResumed => exact setting .clockResumed
  | timingRead => exact setting .timingRead
  | lead c => exact setting (.lead c)
  | output o a width level => exact setting (.output o a width level)

/-- An effect leaves the flags of a clear and of a geometry recompute. -/
theorem Effect.flags {s t : State} (he : Effect s t) :
    t.clearInProgress = s.clearInProgress ∧ t.pendingHeights = s.pendingHeights := by
  rcases he.moves_or_sets with h | h
  · rw [h.1]
    exact ⟨rfl, rfl⟩
  · exact h.link_and_stories.2.2

/-! ## The operations in flight (R19, R29, R38, R41) -/

/-- An idle link has no operation in flight. -/
theorem OperationsExact.quiet {s : State} (hs : OperationsExact s) (hi : s.link.state = .idle) :
    Quiet s ∧ s.clearInProgress = false ∧ s.pendingHeights = none := by
  obtain ⟨h1, -, h3, -, h5⟩ := hs
  rw [hi] at h1 h3
  refine ⟨⟨hi, fun st hst => ?_⟩, h1, ?_⟩
  · have := h5 st hst
    rw [hi] at this
    simpa using this
  · simpa using h3

/-- Without an operation in flight the flags stand clear, whatever the link answers. -/
theorem operationsExact_of_clear {s : State} (hl : ∀ op, s.link.state ≠ .executing op) (hc : s.clearInProgress = false)
    (hp : s.pendingHeights = none) (hst : ∀ st ∈ s.stories, st.checkInFlight = false) : OperationsExact s := by
  refine ⟨?_, ?_, ?_, ?_, fun st h => ?_⟩
  · rw [hc]
    cases he : s.link.state with
    | idle => rfl
    | executing op => exact absurd he (hl op)
    | answering r => rfl
  · simp [hc]
  · simpa [hp] using hl .geometry
  · simp [hp]
  · simpa [hst st h] using hl (.check st.id)

/-- What the operations in flight depend on. -/
def SameOperations (s t : State) : Prop :=
  t.clearInProgress = s.clearInProgress ∧ t.pendingHeights = s.pendingHeights ∧ t.link.state = s.link.state
    ∧ t.channelA.state = s.channelA.state ∧ t.channelB.state = s.channelB.state
    ∧ ∀ x ∈ t.stories, ∃ y ∈ s.stories, x.id = y.id ∧ x.checkInFlight = y.checkInFlight

theorem OperationsExact.same {s t : State} (hs : OperationsExact s) (h : SameOperations s t) : OperationsExact t := by
  obtain ⟨h1, h2, h3, h4, h5, h6⟩ := h
  obtain ⟨o1, o2, o3, o4, o5⟩ := hs
  refine ⟨by rw [h1, h3, o1], by rw [h1, h4, h5]; exact o2, by rw [h2, h3]; exact o3, by rw [h2, h4, h5]; exact o4,
    fun x hx => ?_⟩
  obtain ⟨y, hy, hid, hcheck⟩ := h6 x hx
  rw [h3, hid, hcheck]
  exact o5 y hy

theorem sameOperations_modStory (s : State) (id : Nat) {f : Story → Story}
    (hf : ∀ x, (f x).id = x.id ∧ (f x).checkInFlight = x.checkInFlight) : SameOperations s (s.modStory id f) := by
  refine ⟨rfl, rfl, rfl, rfl, rfl, fun y hy => ?_⟩
  obtain ⟨x, hx, rfl⟩ := List.mem_map.mp hy
  refine ⟨x, hx, ?_⟩
  split
  · exact hf x
  · exact ⟨rfl, rfl⟩

theorem OperationsExact.setChannel {s : State} (hs : OperationsExact s) (c : ChannelId) {ch : Channel}
    (h : ch.state = (s.channel c).state ∨ ch.state = .unloaded) : OperationsExact (s.setChannel c ch) := by
  obtain ⟨o1, o2, o3, o4, o5⟩ := hs
  cases c
  · refine ⟨o1, fun hc => ⟨?_, (o2 hc).2⟩, o3, fun hp => ⟨?_, (o4 hp).2⟩, o5⟩
    · exact h.elim (fun e => e.trans (o2 hc).1) id
    · exact h.elim (fun e => e ▸ (o4 hp).1) (fun e => e ▸ fun hn => nomatch hn)
  · refine ⟨o1, fun hc => ⟨(o2 hc).1, ?_⟩, o3, fun hp => ⟨(o4 hp).1, ?_⟩, o5⟩
    · exact h.elim (fun e => e.trans (o2 hc).2) id
    · exact h.elim (fun e => e ▸ (o4 hp).2) (fun e => e ▸ fun hn => nomatch hn)

theorem OperationsExact.retire {s : State} (hs : OperationsExact s) (id : Nat) : OperationsExact (retire id s) := by
  cases h : s.story? id with
  | none => rwa [retire_absent h]
  | some st =>
    have hstories := (retire_live h).1
    have hframe := retire_frame id s
    rcases retire_link id s with hl | ⟨hx, hl⟩
    · refine hs.same ⟨by rw [hframe], by rw [hframe], by rw [hl], by rw [hframe], by rw [hframe], fun x hx => ?_⟩
      exact ⟨x, mem_of_mem_removeStory (hstories ▸ hx), rfl, rfl⟩
    · obtain ⟨o1, -, o3, -, o5⟩ := hs
      rw [hx] at o1 o3
      refine operationsExact_of_clear (by rw [hl]; exact fun _ hn => nomatch hn) ?_ ?_ fun x hm => ?_
      · rw [hframe]
        exact o1
      · rw [hframe]
        simpa [LinkState.clearing] using o3
      · rw [hstories] at hm
        have := o5 x (mem_of_mem_removeStory hm)
        rw [hx] at this
        rw [Bool.eq_false_iff, Ne, this]
        simpa using (ne_of_mem_removeStory hm).symm

theorem OperationsExact.kill {s : State} (hs : OperationsExact s) (id : Nat) : OperationsExact (kill id s).1 := by
  cases h : s.story? id with
  | none => simpa [Machine.kill, h] using hs
  | some st =>
    rcases kill_cases h with ⟨-, e⟩ | ⟨-, -, e⟩ | ⟨-, -, e⟩ <;> rw [e]
    · exact hs.retire id
    · exact hs
    · exact hs.same (sameOperations_modStory s id (f := fun x => { x with air := .doomed }) fun _ => ⟨rfl, rfl⟩)

theorem operationsExact_soft : Soft OperationsExact where
  station s p f hs _ := hs
  marks s c hs := hs
  arbiter s c r hs := by cases c <;> exact hs
  tuned s c ch hs h := hs.setChannel c (.inl h.1)
  emptied s c ch hs h := hs.setChannel c (.inr h.1)
  left s c id kind hs := leave_keeps c id kind hs
    (hs.same (sameOperations_modStory s id fun x => ⟨Story.left_id c kind _ x, Story.left_checkInFlight c kind _ x⟩))
    (fun _ hu => hu.retire id) (fun _ hu => hu.kill id)
  entered s c id hs :=
    hs.same (sameOperations_modStory s id fun x => ⟨Story.setOpen_id x c true, Story.setOpen_checkInFlight c true x⟩)
  reported s c id k hs := by
    rcases reportLine_cases c id k s with h | ⟨_, l, o, _, _, _, h⟩ <;> rw [h]
    · exact hs
    · exact hs.same (sameOperations_modStory s id (f := fun st => { st with
        lines := st.lines.modify (k - 1) (fun l => { l with fired := true }) }) fun _ => ⟨rfl, rfl⟩)

theorem operationsExact_headless : Headless OperationsExact := fun _ _ hs => hs

/-- An unload of a channel leaves it UNLOADED and the state of the other as it was. -/
theorem unload_states (c : ChannelId) (s : State) :
    ((unload c s).channel c).state = .unloaded ∧ ∀ d, d ≠ c → ((unload c s).channel d).state = (s.channel d).state := by
  unfold unload
  dsimp only
  split
  · rename_i h
    exact ⟨h, fun _ _ => rfl⟩
  · refine ⟨by simp, fun d hd => ?_⟩
    rw [State.modChannel_other _ hd]
    split <;> simp

theorem OperationsExact.concluded {s t : State} (hs : OperationsExact s) (hi : s.link.state = .idle)
    (hc : Concluded s t) : OperationsExact t := by
  obtain ⟨hq, hclear, hpending⟩ := hs.quiet hi
  cases hc with
  | answered u status code payload he =>
    refine operationsExact_of_clear (fun _ hn => nomatch hn) (he.flags.1.trans hclear) (he.flags.2.trans hpending) ?_
    exact (hq.effect he).2
  | checking id st hst =>
    refine ⟨hclear, by simp [hclear], by simp [hpending], by simp [hpending], fun y hy => ?_⟩
    obtain ⟨x, hx, rfl⟩ := List.mem_map.mp hy
    by_cases hid : x.id = id
    · simp [hid]
    · simp [hid, hq.2 x hx, Ne.symm hid]
  | clearing n u ht =>
    have ha := unload_states .a { s with clearInProgress := true }
    have hb := unload_states .b (unload .a { s with clearInProgress := true })
    have hu : Quiet u := ht ▸ quiet_soft.unload (quiet_soft.unload (s := { s with clearInProgress := true }) hq .a) .b
    have hm := (movesOnly_unload .a { s with clearInProgress := true }).trans (movesOnly_unload .b _)
    rw [← ht] at hb hm
    have huc : u.clearInProgress = true := by rw [hm]
    have hup : u.pendingHeights = none := by rw [hm]; exact hpending
    refine ⟨huc, fun _ => ⟨(hb.2 .a (by decide)).trans ha.1, hb.1⟩, by simp [hup], by simp [hup], fun x hx => ?_⟩
    simpa using hu.2 x hx
  | recomputing h ha hb =>
    refine ⟨hclear, by simp [hclear], by simp, fun _ => ⟨ha, hb⟩, fun y hy => ?_⟩
    obtain ⟨x, hx, rfl⟩ := List.mem_map.mp hy
    simpa using hq.2 x hx

theorem OperationsExact.finishCheck {s : State} (hs : OperationsExact s) : OperationsExact (finishCheck s) := by
  unfold Machine.finishCheck
  split
  · rename_i id hx
    obtain ⟨o1, -, o3, -, o5⟩ := hs
    rw [hx] at o1 o3
    have hp : s.pendingHeights = none := by simpa using o3
    unfold completeCheck
    split
    · rename_i hno
      refine operationsExact_of_clear (fun _ hn => nomatch hn) o1 hp fun x hm => ?_
      have := o5 x hm
      rw [hx] at this
      rw [Bool.eq_false_iff, Ne, this]
      simpa using (not_live_iff.mp hno x hm).symm
    · refine operationsExact_of_clear (fun _ hn => nomatch hn) o1 hp fun y hy => ?_
      obtain ⟨x, hm, rfl⟩ := List.mem_map.mp hy
      split
      · rfl
      · rename_i hid
        have := o5 x hm
        rw [hx] at this
        rw [Bool.eq_false_iff, Ne, this]
        simpa using Ne.symm hid
  · exact hs

theorem OperationsExact.finishClear {s : State} (hs : OperationsExact s) : OperationsExact (finishClear s) := by
  unfold Machine.finishClear
  split
  · rename_i n hx
    obtain ⟨-, -, o3, -, -⟩ := hs
    rw [hx] at o3
    have hp : s.pendingHeights = none := by simpa using o3
    exact operationsExact_of_clear (fun _ hn => nomatch hn) rfl hp (List.forall_mem_nil _)
  · exact hs

theorem OperationsExact.finishGeometry {s : State} (hs : OperationsExact s) : OperationsExact (finishGeometry s) := by
  unfold Machine.finishGeometry
  split
  · rename_i hx
    cases hp : s.pendingHeights with
    | none => simpa [completeGeometry, hp] using hs
    | some h =>
      obtain ⟨o1, -, -, -, o5⟩ := hs
      rw [hx] at o1
      rw [completeGeometry_eq hp]
      have hadj := (channelsOnly_geometryAdjust .a (measuredState h s)).trans (channelsOnly_geometryAdjust .b _)
      refine operationsExact_of_clear (fun _ hn => nomatch hn) ?_ ?_ fun y hy => ?_
      · show (geometryAdjust .b (geometryAdjust .a (measuredState h s))).clearInProgress = false
        rw [hadj]
        exact o1
      · show (geometryAdjust .b (geometryAdjust .a (measuredState h s))).pendingHeights = none
        rw [hadj]
        rfl
      · replace hy : y ∈ (geometryAdjust .b (geometryAdjust .a (measuredState h s))).stories := hy
        rw [hadj] at hy
        obtain ⟨x, hm, rfl⟩ := List.mem_map.mp hy
        have := o5 x hm
        rw [hx] at this
        simpa using this
  · exact hs

theorem OperationsExact.sent {s : State} (hs : OperationsExact s) : OperationsExact (gatewaySent s) := by
  unfold gatewaySent
  split
  · rename_i r hx
    obtain ⟨o1, -, o3, -, o5⟩ := hs
    rw [hx] at o1 o3
    have hp : s.pendingHeights = none := by simpa using o3
    have hst : ∀ st ∈ s.stories, st.checkInFlight = false := fun st hm => by
      have := o5 st hm
      rw [hx] at this
      simpa using this
    split
    · exact operationsExact_of_clear (fun _ hn => nomatch hn) o1 hp hst
    · split
      · exact operationsExact_of_clear (fun _ hn => nomatch hn) o1 hp hst
      · exact operationsExact_of_clear (fun _ hn => nomatch hn) o1 hp hst
  · exact hs

theorem operationsExact_kept : Kept Always OperationsExact where
  unqueue s q hs := hs
  tick s _ hs := hs
  reset s := operationsExact_of_clear (fun _ hn => nomatch hn) rfl rfl (List.forall_mem_nil _)
  startUp s rate _ hs := by
    unfold startUp
    split <;> exact hs
  fed s c _ hs := hs
  hunting s _ hs := hs
  slot s code _ hs _ := hs
  misfit s status code _ hs hi := hs.concluded hi (.answered s status code .empty .nothing)
  command cmd s hf _ hs hi := hs.concluded hi (concluded_take hf s)
  sent s _ hs := hs.sent
  checked s _ hs := hs.finishCheck
  cleared s _ hs := hs.finishClear
  recomputed s _ hs := hs.finishGeometry
  channelStep s c _ hs := operationsExact_soft.moves.channelStep operationsExact_headless hs c
  second s _ hs := by
    unfold countSecond
    split <;> exact hs
  pulse s o _ hs := hs
  stationChar s p c _ hs := operationsExact_soft.moves.stationChar hs p c
  stationGap s p _ hs := operationsExact_soft.moves.stationGap hs p
  lapse s p _ hs := operationsExact_soft.calm.lapse hs p
  answerSent s p _ hs := hs
  headChar s hd c _ hs := operationsExact_headless.headChar hs hd c
  headGap s hd _ hs := hs
  headSent s hd _ hs := operationsExact_headless.headSent hs hd

/-! ## The link (R163, R168, R169) -/

/-- The receiver of `t` is that of `s`, and its slot, and `t` is IDLE only when `s` was. -/
def SameLink (s t : State) : Prop :=
  t.link.rx = s.link.rx ∧ t.link.gap = s.link.gap ∧ t.link.slot = s.link.slot
    ∧ (t.link.state = .idle → s.link.state = .idle)

theorem LinkConsistent.same {s t : State} (hs : LinkConsistent s) (h : SameLink s t) : LinkConsistent t := by
  obtain ⟨h1, h2, h3, h4⟩ := h
  obtain ⟨l1, l2, l3⟩ := hs
  exact ⟨by rw [h1, h2]; exact l1, fun hi => h3.trans (l2 (h4 hi)), by rw [h1]; exact l3⟩

theorem LinkConsistent.sameLink {s t : State} (hs : LinkConsistent s) (h : t.link = s.link) : LinkConsistent t :=
  hs.same ⟨by rw [h], by rw [h], by rw [h], by rw [h]; exact id⟩

theorem sameLink_retire (id : Nat) (s : State) : SameLink s (retire id s) := by
  rcases retire_link id s with h | ⟨-, h⟩ <;> rw [SameLink, h]
  · exact ⟨rfl, rfl, rfl, fun hi => hi⟩
  · exact ⟨rfl, rfl, rfl, fun hi => nomatch hi⟩

theorem LinkConsistent.kill {s : State} (hs : LinkConsistent s) (id : Nat) : LinkConsistent (kill id s).1 := by
  cases h : s.story? id with
  | none => simpa [Machine.kill, h] using hs
  | some st =>
    rcases kill_cases h with ⟨-, e⟩ | ⟨-, -, e⟩ | ⟨-, -, e⟩ <;> rw [e]
    · exact hs.same (sameLink_retire id s)
    · exact hs
    · exact hs

theorem linkConsistent_soft : Soft LinkConsistent where
  station s p f hs _ := hs
  marks s c hs := hs
  arbiter s c r hs := hs.sameLink (State.setArbiter_link s c r)
  tuned s c ch hs _ := hs.sameLink (State.setChannel_link s c ch)
  emptied s c ch hs _ := hs.sameLink (State.setChannel_link s c ch)
  left s c id kind hs := leave_keeps c id kind hs hs (fun u hu => hu.same (sameLink_retire id u)) (fun _ hu => hu.kill id)
  entered s c id hs := hs
  reported s c id k hs := by
    rcases reportLine_cases c id k s with h | ⟨_, l, o, _, _, _, h⟩ <;> rw [h] <;> exact hs

theorem linkConsistent_headless : Headless LinkConsistent := fun _ _ hs => hs

theorem LinkConsistent.answering {s : State} (hs : LinkConsistent s) (status : Status) (code : Byte) (p : Payload) :
    LinkConsistent (s.respond status code p) := hs.same ⟨rfl, rfl, rfl, fun hi => nomatch hi⟩

theorem LinkConsistent.executing {s : State} (hs : LinkConsistent s) (op : Operation) :
    LinkConsistent { s with link := { s.link with state := .executing op } } :=
  hs.same ⟨rfl, rfl, rfl, fun hi => nomatch hi⟩

theorem LinkConsistent.channelsOnly {s t : State} (hs : LinkConsistent s) (h : ChannelsOnly s t) : LinkConsistent t :=
  hs.sameLink h.link

theorem LinkConsistent.conclude {s : State} (hs : LinkConsistent s) (hi : s.link.state = .idle) (cmd : Command) :
    LinkConsistent (Machine.conclude cmd.code (take cmd s)) := by
  rcases ends_take cmd hi with ⟨status, -, e⟩ | ⟨payload, t, e, hl⟩ | ⟨op, t, e, hl, -⟩ <;> rw [e]
  · exact hs.answering status cmd.code .empty
  · exact (hs.sameLink hl).answering .ok cmd.code payload
  · exact (hs.sameLink hl).executing op

theorem GatewayRx.feed_sound {rx : GatewayRx} (h : rx.sound = true) (c : LineChar) : (rx.feed c).1.sound = true := by
  cases rx with
  | hunting =>
    simp only [GatewayRx.feed]
    split <;> rfl
  | marker =>
    simp only [GatewayRx.feed]
    split
    · rfl
    · split
      · rfl
      · rename_i hlen
        simp only [GatewayRx.sound, List.length_nil, Bool.and_eq_true, decide_eq_true_eq]
        omega
  | body len got =>
    simp only [GatewayRx.sound, Bool.and_eq_true, decide_eq_true_eq] at h
    simp only [GatewayRx.feed]
    split
    · rfl
    · split
      · rename_i hroom
        simp only [GatewayRx.sound, Bool.and_eq_true, decide_eq_true_eq, List.length_append, List.length_singleton]
        omega
      · rfl

theorem GatewayRx.gapTimer_isSome (rx : GatewayRx) : rx.gapTimer.isSome = true ↔ rx ≠ .hunting := by
  unfold GatewayRx.gapTimer
  split <;> simp_all

theorem LinkConsistent.fed {s : State} (hs : LinkConsistent s) (c : LineChar) : LinkConsistent (s.fed c) :=
  ⟨GatewayRx.gapTimer_isSome _, hs.2.1, GatewayRx.feed_sound hs.2.2 c⟩

theorem LinkConsistent.sent {s : State} (hs : LinkConsistent s) : LinkConsistent (gatewaySent s) := by
  obtain ⟨l1, l2, l3⟩ := id hs
  unfold gatewaySent
  split
  · split
    · exact ⟨l1, fun _ => rfl, l3⟩
    · split
      · exact ⟨l1, fun hi => by simp at hi, l3⟩
      · rename_i hslot
        exact ⟨l1, fun _ => hslot, l3⟩
  · exact hs

theorem LinkConsistent.finishCheck {s : State} (hs : LinkConsistent s) : LinkConsistent (finishCheck s) := by
  unfold Machine.finishCheck
  split
  · unfold completeCheck
    split
    · exact hs.answering _ _ _
    · exact LinkConsistent.answering (s := s.modStory _ _) hs _ _ _
  · exact hs

theorem LinkConsistent.finishClear {s : State} (hs : LinkConsistent s) : LinkConsistent (finishClear s) := by
  unfold Machine.finishClear
  split
  · have hc : LinkConsistent (completeClear s) := hs
    exact hc.answering _ _ _
  · exact hs

theorem LinkConsistent.finishGeometry {s : State} (hs : LinkConsistent s) : LinkConsistent (finishGeometry s) := by
  unfold Machine.finishGeometry
  split
  · cases hp : s.pendingHeights with
    | none => simpa [completeGeometry, hp] using hs
    | some h =>
      rw [completeGeometry_eq hp]
      have hadj : LinkConsistent (geometryAdjust .b (geometryAdjust .a (measuredState h s))) :=
        (LinkConsistent.channelsOnly (s := measuredState h s) hs (channelsOnly_geometryAdjust .a _)).channelsOnly
          (channelsOnly_geometryAdjust .b _)
      exact LinkConsistent.answering (s := queueGeometryAll h _) hadj _ _ _
  · exact hs

theorem linkConsistent_kept : Kept Always LinkConsistent where
  unqueue s q hs := hs
  tick s _ hs := ⟨by simpa [Machine.tick, Timer.tick] using hs.1, hs.2⟩
  reset s := show LinkConsistent State.held by decide
  startUp s rate _ hs := by
    unfold startUp
    split <;> exact hs
  fed s c _ hs := hs.fed c
  hunting s _ hs := ⟨by simp [State.hunting], hs.2.1, rfl⟩
  slot s code _ hs hi := ⟨hs.1, fun h => absurd h hi, hs.2.2⟩
  misfit s status code _ hs _ := hs.answering status code .empty
  command cmd s hf _ hs hi := hs.conclude hi cmd
  sent s _ hs := hs.sent
  checked s _ hs := hs.finishCheck
  cleared s _ hs := hs.finishClear
  recomputed s _ hs := hs.finishGeometry
  channelStep s c _ hs := linkConsistent_soft.moves.channelStep linkConsistent_headless hs c
  second s _ hs := by
    unfold countSecond
    split <;> exact hs
  pulse s o _ hs := hs
  stationChar s p c _ hs := linkConsistent_soft.moves.stationChar hs p c
  stationGap s p _ hs := linkConsistent_soft.moves.stationGap hs p
  lapse s p _ hs := linkConsistent_soft.calm.lapse hs p
  answerSent s p _ hs := hs
  headChar s hd c _ hs := linkConsistent_headless.headChar hs hd c
  headGap s hd _ hs := hs
  headSent s hd _ hs := linkConsistent_headless.headSent hs hd

theorem linkSound_kept : Kept Always LinkSound :=
  linkConsistent_kept.and (operationsExact_kept.mono fun _ _ => trivial)

/-- Sections 6.1, 7.1, 7.4, 10.1, 10.5, 10.7, 11.1 and 11.2.
Settles O59. -/
theorem everyStepKeepsPortsLinkAndShowConsistent : Obligations.EveryStepKeepsPortsLinkAndShowConsistent :=
  fun _ _ hst => ⟨headsConsistent_kept.step hst, linkSound_kept.step hst, showSound_kept.step hst⟩

end Sys2Proof.Machine
end

section
/-! PROOF. What the arbiter's acts write (R136 to R148): the arbitration record, the stations and the channel, act by act. -/

namespace Sys2Proof.Machine

/-! ## Stations -/

theorem State.modStation_station (s : State) (p : Fin 4) (f : Station → Station) (r : Fin 4) :
    (s.modStation p f).station r = if r = p then f (s.station p) else s.station r := by
  split
  · rename_i h
    rw [h, State.modStation_same]
  · rename_i h
    exact State.modStation_other s h f

@[simp] theorem State.setArbiter_same (s : State) (c : ChannelId) (r : Arbitration) :
    (s.setArbiter c r).arbiter c = r := by cases c <;> rfl

theorem State.setArbiter_other (s : State) {c d : ChannelId} (h : d ≠ c) (r : Arbitration) :
    (s.setArbiter c r).arbiter d = s.arbiter d := by
  cases c <;> cases d
  · exact absurd rfl h
  · rfl
  · rfl
  · exact absurd rfl h

theorem clearMarks_station (c : ChannelId) (s : State) (r : Fin 4) :
    (clearMarks c s).station r
      = { s.station r with overridden := (s.station r).overridden && decide ((s.station r).channel ≠ c) } := by
  simp only [clearMarks, State.station, Fin.getElem_fin, Vector.getElem_map]
  split
  · rename_i h
    simp [h]
  · rename_i h
    simp [h]

@[simp] theorem clearMarks_channel (c : ChannelId) (s : State) (d : ChannelId) :
    (clearMarks c s).channel d = s.channel d := by cases d <;> rfl

@[simp] theorem clearMarks_arbiter (c : ChannelId) (s : State) (d : ChannelId) :
    (clearMarks c s).arbiter d = s.arbiter d := by cases d <;> rfl

@[simp] theorem recompute_arbiter (c : ChannelId) (s : State) (d : ChannelId) :
    (recompute c s).arbiter d = s.arbiter d := State.modChannel_arbiter s c _ d

@[simp] theorem recompute_station (c : ChannelId) (s : State) (p : Fin 4) :
    (recompute c s).station p = s.station p := State.modChannel_station s c _ p

/-! ## A new owner (R141 to R144, R147) -/

theorem becomeOwner_arbiter (c : ChannelId) (p : Fin 4) (s : State) :
    (becomeOwner c p s).arbiter c = { s.arbiter c with
      owner := some p, waiting := (s.arbiter c).waiting.filter (fun r => decide (r ≠ p)), idle := 0 } := by
  simp [becomeOwner, setOverridden]

theorem becomeOwner_arbiter_other {c d : ChannelId} (h : d ≠ c) (p : Fin 4) (s : State) :
    (becomeOwner c p s).arbiter d = s.arbiter d := by
  simp [becomeOwner, setOverridden, State.modArbiter_other s h]

theorem becomeOwner_station (c : ChannelId) (p : Fin 4) (s : State) (r : Fin 4) :
    (becomeOwner c p s).station r = if r = p then { s.station r with overridden := false } else s.station r := by
  simp only [becomeOwner, setOverridden, recompute_station, State.modChannel_station, State.modStation_station,
    State.modArbiter_station]
  split
  · rename_i h
    rw [h]
  · rfl

/-- A new owner sets OWNER CHANGED and T is recomputed from what then stands (R147). -/
theorem becomeOwner_channel (c : ChannelId) (p : Fin 4) (s : State) :
    (becomeOwner c p s).channel c
      = { s.channel c with ownerChanged := true, target := targetFor (becomeOwner c p s) c } := by
  have h := recompute_same c ((setOverridden p false (s.modArbiter c (fun a => { a with
    owner := some p, waiting := a.waiting.filter (· ≠ p), idle := 0 }))).modChannel c
      (fun ch => { ch with ownerChanged := true }))
  rw [← targetFor_recompute] at h
  exact h.trans (by simp [becomeOwner, setOverridden])

theorem becomeOwner_channel_other {c d : ChannelId} (h : d ≠ c) (p : Fin 4) (s : State) :
    (becomeOwner c p s).channel d = s.channel d := by
  simp [becomeOwner, setOverridden, recompute_other h, State.modChannel_other _ h]

/-! ## The departure of an owner (R144, R145, R148) -/

/-- The hand-back reads the roles and the ranks of the stations (R145). -/
theorem successor_congr {s t : State} (h : ∀ p, (t.station p).role = (s.station p).role
    ∧ (t.station p).rank = (s.station p).rank) (loser : Option (Fin 4)) (ws : List (Fin 4)) :
    successor t loser ws = successor s loser ws := by
  have hr : ∀ p q, ranksBefore t loser p q = ranksBefore s loser p q := fun p q => by
    simp only [ranksBefore, (h p).1, (h p).2, (h q).1, (h q).2]
  induction ws with
  | nil => rfl
  | cons w ws ih => simp only [successor, ih, hr]

/-- The part when the owner has gone and its successor is not yet chosen. -/
def ownerless (c : ChannelId) (p : Fin 4) (s : State) : State :=
  (s.modStation p (fun st => { st with takeLatch := false })).modArbiter c (fun a => { a with owner := none })

theorem successor_ownerless (c : ChannelId) (p : Fin 4) (s : State) (loser : Option (Fin 4)) (ws : List (Fin 4)) :
    successor (ownerless c p s) loser ws = successor s loser ws := by
  refine successor_congr (fun q => ?_) loser ws
  simp only [ownerless, State.modArbiter_station, State.modStation_station]
  split
  · rename_i h
    rw [h]
    exact ⟨rfl, rfl⟩
  · exact ⟨rfl, rfl⟩

/-- The last-loser after a departure (R144). -/
def loserAfter (p : Fin 4) (lost : Bool) (a : Arbitration) : Option (Fin 4) := if lost then some p else a.lastLoser

/-- The part after a departure, but for the last-loser. -/
def handedBack (c : ChannelId) (p : Fin 4) (s : State) : State :=
  match successor s (s.arbiter c).lastLoser (s.arbiter c).waiting with
  | some q => becomeOwner c q (ownerless c p s)
  | none =>
    recompute c ((clearMarks c ((ownerless c p s).modArbiter c (fun a => { a with idle := 0 }))).modChannel c
      (fun ch => { ch with ownerChanged := true }))

theorem depart_eq (c : ChannelId) (p : Fin 4) (lost : Bool) (s : State) :
    depart c p lost s = if lost then (handedBack c p s).modArbiter c (fun a => { a with lastLoser := some p })
      else handedBack c p s := by
  unfold depart handedBack
  rw [← successor_ownerless c p s]
  rfl

theorem handedBack_none {c : ChannelId} {s : State}
    (h : successor s (s.arbiter c).lastLoser (s.arbiter c).waiting = none) (p : Fin 4) :
    handedBack c p s = recompute c ((clearMarks c ((ownerless c p s).modArbiter c
      (fun a => { a with idle := 0 }))).modChannel c (fun ch => { ch with ownerChanged := true })) := by
  simp only [handedBack, h]

theorem handedBack_some {c : ChannelId} {s : State} {q : Fin 4}
    (h : successor s (s.arbiter c).lastLoser (s.arbiter c).waiting = some q) (p : Fin 4) :
    handedBack c p s = becomeOwner c q (ownerless c p s) := by simp only [handedBack, h]

@[simp] theorem ownerless_arbiter (c : ChannelId) (p : Fin 4) (s : State) :
    (ownerless c p s).arbiter c = { s.arbiter c with owner := none } := by simp [ownerless]

theorem ownerless_arbiter_other {c d : ChannelId} (h : d ≠ c) (p : Fin 4) (s : State) :
    (ownerless c p s).arbiter d = s.arbiter d := by simp [ownerless, State.modArbiter_other _ h]

@[simp] theorem ownerless_channel (c : ChannelId) (p : Fin 4) (s : State) (d : ChannelId) :
    (ownerless c p s).channel d = s.channel d := by simp [ownerless]

theorem ownerless_station (c : ChannelId) (p : Fin 4) (s : State) (r : Fin 4) :
    (ownerless c p s).station r = if r = p then { s.station r with takeLatch := false } else s.station r := by
  simp only [ownerless, State.modArbiter_station, State.modStation_station]
  split
  · rename_i h
    rw [h]
  · rfl

/-- The arbitration record after a departure (R144, R145). -/
theorem depart_arbiter (c : ChannelId) (p : Fin 4) (lost : Bool) (s : State) :
    (depart c p lost s).arbiter c = match successor s (s.arbiter c).lastLoser (s.arbiter c).waiting with
      | some q => ⟨some q, (s.arbiter c).waiting.filter (fun r => decide (r ≠ q)), loserAfter p lost (s.arbiter c), 0⟩
      | none => ⟨none, [], loserAfter p lost (s.arbiter c), 0⟩ := by
  have hback : (handedBack c p s).arbiter c = match successor s (s.arbiter c).lastLoser (s.arbiter c).waiting with
      | some q => ⟨some q, (s.arbiter c).waiting.filter (fun r => decide (r ≠ q)), (s.arbiter c).lastLoser, 0⟩
      | none => ⟨none, [], (s.arbiter c).lastLoser, 0⟩ := by
    cases h : successor s (s.arbiter c).lastLoser (s.arbiter c).waiting with
    | some q => rw [handedBack_some h, becomeOwner_arbiter, ownerless_arbiter]
    | none =>
      have hw := successor_eq_none_iff.mp h
      simp [handedBack_none h, hw]
  rw [depart_eq]
  cases lost
  · exact hback
  · rw [if_pos rfl, State.modArbiter_same, hback]
    cases successor s (s.arbiter c).lastLoser (s.arbiter c).waiting <;> rfl

theorem depart_arbiter_other {c d : ChannelId} (h : d ≠ c) (p : Fin 4) (lost : Bool) (s : State) :
    (depart c p lost s).arbiter d = s.arbiter d := by
  have hback : (handedBack c p s).arbiter d = s.arbiter d := by
    unfold handedBack
    split
    · rw [becomeOwner_arbiter_other h, ownerless_arbiter_other h]
    · simp [State.modArbiter_other _ h, ownerless_arbiter_other h]
  rw [depart_eq]
  split
  · rw [State.modArbiter_other _ h, hback]
  · exact hback

/-- The stations after a departure: the owner's latch is cleared, and with it the overridden mark of the successor or,
without one, those of the channel (R139, R148). -/
theorem depart_station (c : ChannelId) (p : Fin 4) (lost : Bool) (s : State) (r : Fin 4) :
    (depart c p lost s).station r =
      let st := if r = p then { s.station r with takeLatch := false } else s.station r
      match successor s (s.arbiter c).lastLoser (s.arbiter c).waiting with
      | some q => if r = q then { st with overridden := false } else st
      | none => { st with overridden := st.overridden && decide (st.channel ≠ c) } := by
  have hback : (depart c p lost s).station r = (handedBack c p s).station r := by
    rw [depart_eq]
    split
    · rw [State.modArbiter_station]
    · rfl
  rw [hback]
  cases h : successor s (s.arbiter c).lastLoser (s.arbiter c).waiting with
  | some q => rw [handedBack_some h, becomeOwner_station, ownerless_station]
  | none =>
    rw [handedBack_none h, recompute_station, State.modChannel_station, clearMarks_station, State.modArbiter_station,
      ownerless_station]

/-- After a departure OWNER CHANGED is set and T recomputed (R147). -/
theorem depart_channel (c : ChannelId) (p : Fin 4) (lost : Bool) (s : State) :
    (depart c p lost s).channel c
      = { s.channel c with ownerChanged := true, target := targetFor (depart c p lost s) c } := by
  have hback : (handedBack c p s).channel c
      = { s.channel c with ownerChanged := true, target := targetFor (handedBack c p s) c } := by
    cases h : successor s (s.arbiter c).lastLoser (s.arbiter c).waiting with
    | some q => rw [handedBack_some h, becomeOwner_channel, ownerless_channel]
    | none => rw [handedBack_none h, recompute_same, targetFor_recompute]; simp
  rw [depart_eq]
  cases lost
  · exact hback
  · have ht : targetFor ((handedBack c p s).modArbiter c (fun a => { a with lastLoser := some p })) c
        = targetFor (handedBack c p s) c := by simp [targetFor]
    rw [if_pos rfl, State.modArbiter_channel, ht]
    exact hback

theorem depart_channel_other {c d : ChannelId} (h : d ≠ c) (p : Fin 4) (lost : Bool) (s : State) :
    (depart c p lost s).channel d = s.channel d := by
  have hback : (handedBack c p s).channel d = s.channel d := by
    unfold handedBack
    split
    · rw [becomeOwner_channel_other h, ownerless_channel]
    · rw [recompute_other h, State.modChannel_other _ h]
      simp
  rw [depart_eq]
  split
  · rw [State.modArbiter_channel, hback]
  · exact hback

/-! ## The waiting list (R143, R146) -/

theorem leaveWaiting_arbiter (c : ChannelId) (p : Fin 4) (s : State) :
    (leaveWaiting c p s).arbiter c
      = { s.arbiter c with waiting := (s.arbiter c).waiting.filter (fun r => decide (r ≠ p)) } :=
  State.modArbiter_same s c _

theorem leaveWaiting_arbiter_other {c d : ChannelId} (h : d ≠ c) (p : Fin 4) (s : State) :
    (leaveWaiting c p s).arbiter d = s.arbiter d := State.modArbiter_other s h _

@[simp] theorem leaveWaiting_station (c : ChannelId) (p : Fin 4) (s : State) (r : Fin 4) :
    (leaveWaiting c p s).station r = s.station r := State.modArbiter_station s c _ r

@[simp] theorem leaveWaiting_channel (c : ChannelId) (p : Fin 4) (s : State) (d : ChannelId) :
    (leaveWaiting c p s).channel d = s.channel d := State.modArbiter_channel s c _ d

end Sys2Proof.Machine
end

section
/-! PROOF. The owner of a channel and its waiting stations stay bound and ACTIVE (R121, R122, R136 to R148). -/

namespace Sys2Proof.Machine

/-! ## One arbitration record -/

/-- The station is bound to the channel and ACTIVE. -/
def Bound (s : State) (c : ChannelId) (p : Fin 4) : Prop := (s.station p).channel = c ∧ (s.station p).state = .active

/-- An arbitration record whose stations all satisfy `B` (R137, R138). -/
structure RecordExact (B : Fin 4 → Prop) (a : Arbitration) : Prop where
  owner : ∀ p ∈ a.owner, B p
  waiting : ∀ p ∈ a.waiting, B p ∧ a.owner ≠ some p
  nodup : a.waiting.Nodup
  idle : a.idle ≤ 5000
  ownerless : a.owner = none → a.waiting = [] ∧ a.idle = 0

namespace RecordExact

variable {B C : Fin 4 → Prop} {a : Arbitration} {p : Fin 4}

theorem mono (h : RecordExact B a) (hBC : ∀ q, B q → C q) : RecordExact C a :=
  ⟨fun q hq => hBC q (h.owner q hq), fun q hq => ⟨hBC q (h.waiting q hq).1, (h.waiting q hq).2⟩, h.nodup, h.idle,
    h.ownerless⟩

/-- A new owner out of a list of good stations (R141 to R144). -/
theorem owned (hw : ∀ q ∈ a.waiting, B q) (hn : a.waiting.Nodup) (hp : B p) :
    RecordExact B { a with owner := some p, waiting := a.waiting.filter (fun r => decide (r ≠ p)), idle := 0 } where
  owner q hq := by
    cases hq
    exact hp
  waiting q hq := by
    obtain ⟨hm, hne⟩ := List.mem_filter.mp hq
    exact ⟨hw q hm, fun he => of_decide_eq_true hne (Option.some_inj.mp he).symm⟩
  nodup := hn.filter _
  idle := Nat.zero_le _
  ownerless h := nomatch h

theorem becomes (h : RecordExact B a) (hp : B p) :
    RecordExact B { a with owner := some p, waiting := a.waiting.filter (fun r => decide (r ≠ p)), idle := 0 } :=
  owned (fun q hq => (h.waiting q hq).1) h.nodup hp

/-- A station that is not the owner is no longer of the record (R146). -/
theorem leaves (h : RecordExact B a) (ho : a.owner ≠ some p) :
    RecordExact (fun q => B q ∧ q ≠ p) { a with waiting := a.waiting.filter (fun r => decide (r ≠ p)) } where
  owner q hq := ⟨h.owner q hq, fun e => ho (e ▸ hq)⟩
  waiting q hq := by
    obtain ⟨hm, hne⟩ := List.mem_filter.mp hq
    exact ⟨⟨(h.waiting q hm).1, of_decide_eq_true hne⟩, (h.waiting q hm).2⟩
  nodup := h.nodup.filter _
  idle := h.idle
  ownerless hn := ⟨by simp [(h.ownerless hn).1], (h.ownerless hn).2⟩

theorem joins (h : RecordExact B a) (hp : B p) (hm : p ∉ a.waiting) {q : Fin 4} (ho : a.owner = some q) (hne : q ≠ p) :
    RecordExact B { a with waiting := a.waiting ++ [p] } where
  owner := h.owner
  waiting r hr := by
    rcases List.mem_append.mp hr with hr | hr
    · exact h.waiting r hr
    · obtain rfl := List.mem_singleton.mp hr
      exact ⟨hp, fun e => hne (Option.some_inj.mp (ho.symm.trans e))⟩
  nodup := List.nodup_append.mpr ⟨h.nodup, List.nodup_cons.mpr ⟨List.not_mem_nil, List.nodup_nil⟩, fun x hx y hy => by
    obtain rfl := List.mem_singleton.mp hy
    exact fun e => hm (e ▸ hx)⟩
  idle := h.idle
  ownerless hn := by rw [hn] at ho; exact nomatch ho

theorem idles (h : RecordExact B a) (ho : a.owner = some p) {n : Nat} (hn : n ≤ 5000) :
    RecordExact B { a with idle := n } :=
  ⟨h.owner, h.waiting, h.nodup, hn, fun he => by rw [he] at ho; exact nomatch ho⟩

theorem withLoser (h : RecordExact B a) (l : Option (Fin 4)) : RecordExact B { a with lastLoser := l } :=
  ⟨h.owner, h.waiting, h.nodup, h.idle, h.ownerless⟩

theorem tick (h : RecordExact B a) : RecordExact B a.tick := by
  rw [Arbitration.tick]
  split
  · exact h
  · rename_i ho
    obtain ⟨q, hq⟩ := Option.ne_none_iff_exists'.mp ho
    exact h.idles hq (Nat.min_le_left _ _)

end RecordExact

/-- The record after a departure holds good stations, and no longer the owner (R144). -/
theorem depart_recordExact {B : Fin 4 → Prop} {s : State} {c : ChannelId} {p : Fin 4}
    (h : RecordExact B (s.arbiter c)) (ho : (s.arbiter c).owner = some p) (lost : Bool) :
    RecordExact (fun q => B q ∧ q ≠ p) ((depart c p lost s).arbiter c) := by
  have hwait : ∀ q ∈ (s.arbiter c).waiting, B q ∧ q ≠ p := fun q hq =>
    ⟨(h.waiting q hq).1, fun e => (h.waiting q hq).2 (e ▸ ho)⟩
  rw [depart_arbiter]
  cases hs : successor s (s.arbiter c).lastLoser (s.arbiter c).waiting with
  | some q =>
    have hq := (successor_eq_some_iff.mp hs).1
    exact (RecordExact.owned hwait h.nodup (hwait q hq)).withLoser _
  | none =>
    exact ⟨fun _ hq => (nomatch hq), fun _ hq => (nomatch hq), List.nodup_nil, Nat.zero_le _, fun _ => ⟨rfl, rfl⟩⟩

/-! ## All stations and records -/

theorem ownershipSound_iff (s : State) : OwnershipSound s ↔
    (∀ p, StationConsistent (s.station p)) ∧ (50 ≤ s.lapseTime ∧ s.lapseTime ≤ 1000 ∧ s.handOff ≤ 5000)
      ∧ ∀ c, RecordExact (Bound s c) (s.arbiter c) := by
  constructor
  · rintro ⟨⟨hst, hset⟩, hown⟩
    refine ⟨fun p => hst p (mem_ports p), hset, fun c => ?_⟩
    obtain ⟨h1, h2, h3, h4, h5⟩ := hown c (by cases c <;> decide)
    exact ⟨h1, fun p hp => ⟨⟨(h2 p hp).1, (h2 p hp).2.1⟩, (h2 p hp).2.2⟩, h3, h4, h5⟩
  · rintro ⟨hst, hset, hown⟩
    refine ⟨⟨fun p _ => hst p, hset⟩, fun c _ => ?_⟩
    obtain ⟨h1, h2, h3, h4, h5⟩ := hown c
    exact ⟨h1, fun p hp => ⟨(h2 p hp).1.1, (h2 p hp).1.2, (h2 p hp).2⟩, h3, h4, h5⟩

/-- Two station records that no rule of ownership tells apart. -/
def Alike (x y : Station) : Prop :=
  y.role = x.role ∧ y.channel = x.channel ∧ y.rank = x.rank ∧ y.state = x.state ∧ y.lapse.isSome = x.lapse.isSome
    ∧ y.lastLevels.isSome = x.lastLevels.isSome ∧ y.held.isSome = x.held.isSome

theorem Alike.refl (x : Station) : Alike x x := ⟨rfl, rfl, rfl, rfl, rfl, rfl, rfl⟩

theorem Alike.trans {x y z : Station} (h1 : Alike x y) (h2 : Alike y z) : Alike x z := by
  obtain ⟨a1, a2, a3, a4, a5, a6, a7⟩ := h1
  obtain ⟨b1, b2, b3, b4, b5, b6, b7⟩ := h2
  exact ⟨b1.trans a1, b2.trans a2, b3.trans a3, b4.trans a4, b5.trans a5, b6.trans a6, b7.trans a7⟩

theorem Alike.consistent {x y : Station} (h : Alike x y) (hx : StationConsistent x) : StationConsistent y := by
  obtain ⟨h1, -, h3, h4, h5, h6, h7⟩ := h
  simpa only [StationConsistent, h1, h3, h4, h5, h6, h7] using hx

/-- Every station of `t` is like that of `s`. -/
def AlikeStations (s t : State) : Prop := ∀ r, Alike (s.station r) (t.station r)

theorem AlikeStations.bound {s t : State} (h : AlikeStations s t) (c : ChannelId) (p : Fin 4) :
    Bound t c p ↔ Bound s c p := by
  obtain ⟨-, h2, -, h4, -⟩ := h p
  rw [Bound, h2, h4]
  rfl

theorem AlikeStations.trans {s t u : State} (h1 : AlikeStations s t) (h2 : AlikeStations t u) : AlikeStations s u :=
  fun r => (h1 r).trans (h2 r)

theorem AlikeStations.of_eq {s t : State} (h : ∀ r, t.station r = s.station r) : AlikeStations s t :=
  fun r => h r ▸ Alike.refl _

theorem alikeStations_modStation {s : State} {p : Fin 4} {f : Station → Station}
    (hf : Alike (s.station p) (f (s.station p))) : AlikeStations s (s.modStation p f) := by
  intro r
  rw [State.modStation_station]
  split
  · rename_i h
    rwa [h]
  · exact .refl _

theorem alikeStations_becomeOwner (c : ChannelId) (p : Fin 4) (s : State) : AlikeStations s (becomeOwner c p s) := by
  intro r
  rw [becomeOwner_station]
  split <;> exact .refl _

theorem alikeStations_depart (c : ChannelId) (p : Fin 4) (lost : Bool) (s : State) :
    AlikeStations s (depart c p lost s) := by
  intro r
  rw [depart_station]
  dsimp only
  split <;> split <;> (try split) <;> exact .refl _

/-- The ownership after acts that leave the stations alike. -/
theorem OwnershipSound.of_alike {s t : State} (hs : OwnershipSound s) (hst : AlikeStations s t)
    (hset : t.lapseTime = s.lapseTime ∧ t.handOff = s.handOff)
    (harb : ∀ c, RecordExact (Bound s c) (t.arbiter c)) : OwnershipSound t := by
  rw [ownershipSound_iff] at hs ⊢
  obtain ⟨h1, h2, -⟩ := hs
  refine ⟨fun p => (hst p).consistent (h1 p), by rw [hset.1, hset.2]; exact h2, fun c => ?_⟩
  exact (harb c).mono fun q hq => (hst.bound c q).mpr hq

theorem OwnershipSound.record {s : State} (hs : OwnershipSound s) (c : ChannelId) :
    RecordExact (Bound s c) (s.arbiter c) := ((ownershipSound_iff s).mp hs).2.2 c

/-- What the ownership depends on is as it was. -/
def SameOwnership (s t : State) : Prop :=
  t.stations = s.stations ∧ t.arbiterA = s.arbiterA ∧ t.arbiterB = s.arbiterB ∧ t.lapseTime = s.lapseTime
    ∧ t.handOff = s.handOff

theorem OwnershipSound.same {s t : State} (hs : OwnershipSound s) (h : SameOwnership s t) : OwnershipSound t := by
  obtain ⟨h1, h2, h3, h4, h5⟩ := h
  refine hs.of_alike (.of_eq fun r => by rw [State.station, h1]; rfl) ⟨h4, h5⟩ fun c => ?_
  have hc : t.arbiter c = s.arbiter c := by cases c <;> assumption
  rw [hc]
  exact hs.record c

theorem MovesOnly.sameOwnership {s t : State} (h : MovesOnly s t) : SameOwnership s t := by
  rw [h]
  exact ⟨rfl, rfl, rfl, rfl, rfl⟩

theorem ArbitersOnly.settings {s t : State} (h : ArbitersOnly s t) :
    t.lapseTime = s.lapseTime ∧ t.handOff = s.handOff := by
  rw [h]
  exact ⟨rfl, rfl⟩

/-- An act of the arbiter at one channel. -/
theorem OwnershipSound.arbitrates {s t : State} (hs : OwnershipSound s) (hst : AlikeStations s t) (ha : ArbitersOnly s t)
    {c : ChannelId} (hother : ∀ d, d ≠ c → t.arbiter d = s.arbiter d) (hc : RecordExact (Bound s c) (t.arbiter c)) :
    OwnershipSound t := by
  refine hs.of_alike hst ha.settings fun d => ?_
  by_cases hd : d = c
  · exact hd ▸ hc
  · rw [hother d hd]
    exact hs.record d

/-! ## The acts of the arbiter -/

theorem OwnershipSound.becomeOwner {s : State} (hs : OwnershipSound s) {c : ChannelId} {p : Fin 4} (hp : Bound s c p) :
    OwnershipSound (becomeOwner c p s) :=
  hs.arbitrates (alikeStations_becomeOwner c p s) (arbitersOnly_becomeOwner c p s)
    (fun _ hd => becomeOwner_arbiter_other hd p s) (by rw [becomeOwner_arbiter]; exact (hs.record c).becomes hp)

theorem OwnershipSound.depart {s : State} (hs : OwnershipSound s) {c : ChannelId} {p : Fin 4}
    (ho : (s.arbiter c).owner = some p) (lost : Bool) : OwnershipSound (depart c p lost s) :=
  hs.arbitrates (alikeStations_depart c p lost s) (arbitersOnly_depart c p lost s)
    (fun _ hd => depart_arbiter_other hd p lost s)
    ((depart_recordExact (hs.record c) ho lost).mono fun _ hq => hq.1)

theorem OwnershipSound.leaveWaiting {s : State} (hs : OwnershipSound s) {c : ChannelId} {p : Fin 4}
    (ho : (s.arbiter c).owner ≠ some p) : OwnershipSound (leaveWaiting c p s) :=
  hs.arbitrates (.of_eq (leaveWaiting_station c p s)) (arbitersOnly_leaveWaiting c p s)
    (fun _ hd => leaveWaiting_arbiter_other hd p s)
    (by rw [leaveWaiting_arbiter]; exact ((hs.record c).leaves ho).mono fun _ hq => hq.1)

theorem OwnershipSound.modStation {s : State} (hs : OwnershipSound s) (p : Fin 4) {f : Station → Station}
    (hf : Alike (s.station p) (f (s.station p))) : OwnershipSound (s.modStation p f) :=
  hs.of_alike (alikeStations_modStation hf) ⟨rfl, rfl⟩ fun c => by
    rw [State.modStation_arbiter]
    exact hs.record c

theorem OwnershipSound.joinWaiting {s : State} (hs : OwnershipSound s) {c : ChannelId} {p q : Fin 4} (hp : Bound s c p)
    (ho : (s.arbiter c).owner = some q) (hne : q ≠ p) : OwnershipSound (joinWaiting c p s) := by
  unfold Machine.joinWaiting
  split
  · exact hs
  · rename_i hm
    refine OwnershipSound.modStation (f := fun st => { st with overridden := false }) ?_ p (Alike.refl _)
    refine hs.arbitrates (.of_eq fun r => State.modArbiter_station s c _ r) (arbitersOnly_modArbiter c _ s)
      (fun _ hd => State.modArbiter_other s hd _) ?_
    rw [State.modArbiter_same]
    exact (hs.record c).joins hp hm ho hne

theorem OwnershipSound.claim {s : State} (hs : OwnershipSound s) {c : ChannelId} {p : Fin 4} (hp : Bound s c p)
    (ho : (s.arbiter c).owner ≠ some p) (takePress : Bool) : OwnershipSound (claim c p takePress s) := by
  unfold Machine.claim
  split
  · exact hs.becomeOwner hp
  · rename_i q hq
    dsimp only
    split
    · exact (hs.becomeOwner hp).modStation q (f := fun st => { st with overridden := true }) (Alike.refl _)
    · split
      · exact hs.becomeOwner hp
      · exact hs.joinWaiting hp hq (fun e => ho (e ▸ hq))

/-- The station's own part of a settled REPORT: the held deflection and the TAKE latch (R136, R139). -/
def holdLevels (p : Fin 4) (d : Int) (takePress releasePress : Bool) (s : State) : State :=
  s.modStation p (fun st => { st with
    held := some d, takeLatch := latchAfter (s.station p).role takePress releasePress (s.station p).takeLatch })

/-- The arbiter's part of a settled REPORT (R138 to R143). -/
theorem settle_eq (p : Fin 4) (d j : Int) (takePress releasePress : Bool) (s : State) :
    settle p d j takePress releasePress s =
      let c := (s.station p).channel
      let dz := (s.channel c).tuning.dz
      let s1 := holdLevels p d takePress releasePress s
      if (s.arbiter c).owner = some p then
        if releasePress then leaveWaiting c p (depart c p true s1)
        else if showsActivity dz d j (takePress && !releasePress) then s1.modArbiter c (fun a => { a with idle := 0 })
        else s1
      else if requesting (s.station p).role dz d j releasePress
          (latchAfter (s.station p).role takePress releasePress (s.station p).takeLatch) then
        claim c p (takePress && !releasePress) s1
      else leaveWaiting c p s1 := by
  unfold settle holdLevels
  simp only [State.modStation_arbiter]

/-- A REPORT is settled among consistent stations (R136, R140). -/
theorem OwnershipSound.settle {s : State} {p : Fin 4} {d : Int} {takePress releasePress : Bool}
    (hs : OwnershipSound (holdLevels p d takePress releasePress s)) (hp : (s.station p).state = .active) (j : Int) :
    OwnershipSound (settle p d j takePress releasePress s) := by
  have hb : Bound (holdLevels p d takePress releasePress s) (s.station p).channel p := by
    rw [Bound, holdLevels, State.modStation_same]
    exact ⟨rfl, hp⟩
  have harb : (holdLevels p d takePress releasePress s).arbiter (s.station p).channel
      = s.arbiter (s.station p).channel := State.modStation_arbiter s p _ _
  rw [settle_eq]
  dsimp only
  split
  · rename_i ho
    rw [← harb] at ho
    split
    · have hd := hs.depart ho true
      refine hd.leaveWaiting fun e => ?_
      exact ((depart_recordExact (hs.record _) ho true).owner p e).2 rfl
    · split
      · refine hs.arbitrates (.of_eq fun r => State.modArbiter_station _ _ _ r) (arbitersOnly_modArbiter _ _ _)
          (fun _ hd => State.modArbiter_other _ hd _) ?_
        rw [State.modArbiter_same]
        exact (hs.record _).idles ho (Nat.zero_le _)
      · exact hs
  · rename_i ho
    rw [← harb] at ho
    split
    · exact hs.claim hb ho _
    · exact hs.leaveWaiting ho

/-- A station leaves ACTIVE: afterwards the records hold only other stations (R136, R144, R146). -/
theorem leaveActive_recordExact {s : State} {B : ChannelId → Fin 4 → Prop} (h : ∀ c, RecordExact (B c) (s.arbiter c))
    {p : Fin 4} (hp : ∀ c, c ≠ (s.station p).channel → ¬ B c p) (lost : Bool) (c : ChannelId) :
    RecordExact (fun q => B c q ∧ q ≠ p) ((leaveActive p lost s).arbiter c) := by
  unfold leaveActive
  dsimp only
  rw [State.modStation_arbiter]
  have hrec : RecordExact (B (s.station p).channel) ((s.modStation p (fun st => { st with
      takeLatch := false, overridden := false })).arbiter (s.station p).channel) := by
    rw [State.modStation_arbiter]
    exact h _
  have hother : c ≠ (s.station p).channel → RecordExact (fun q => B c q ∧ q ≠ p) (s.arbiter c) := fun hc =>
    (h c).mono fun q hq => ⟨hq, fun e => hp c hc (e ▸ hq)⟩
  split
  · rename_i ho
    by_cases hc : c = (s.station p).channel
    · subst hc
      exact depart_recordExact hrec (by rwa [State.modStation_arbiter]) lost
    · rw [depart_arbiter_other hc, State.modStation_arbiter]
      exact hother hc
  · rename_i ho
    by_cases hc : c = (s.station p).channel
    · subst hc
      rw [leaveWaiting_arbiter]
      exact hrec.leaves (by rwa [State.modStation_arbiter])
    · rw [leaveWaiting_arbiter_other hc, State.modStation_arbiter]
      exact hother hc

theorem alikeStations_leaveActive (p : Fin 4) (lost : Bool) (s : State) : AlikeStations s (leaveActive p lost s) := by
  have h1 : AlikeStations s (s.modStation p (fun st => { st with takeLatch := false, overridden := false })) :=
    alikeStations_modStation (Alike.refl _)
  unfold leaveActive
  dsimp only
  split
  · exact h1.trans (alikeStations_depart _ p lost _)
  · exact h1.trans (.of_eq (leaveWaiting_station _ p _))

theorem OwnershipSound.lapse {s : State} (hs : OwnershipSound s) (p : Fin 4) : OwnershipSound (lapse p s) := by
  unfold Machine.lapse
  split
  · exact hs
  · rename_i hrun
    obtain ⟨hst, hset, hrec⟩ := (ownershipSound_iff s).mp hs
    have halike := alikeStations_leaveActive p true
      (s.modStation p (fun st => { st with state := .silent, lapse := none, lapseFlag := true }))
    have harb := arbitersOnly_leaveActive p true
      (s.modStation p (fun st => { st with state := .silent, lapse := none, lapseFlag := true }))
    refine (ownershipSound_iff _).mpr ⟨fun r => (halike r).consistent ?_, ?_, fun c => ?_⟩
    · rw [State.modStation_station]
      split
      · obtain ⟨h1, h2, -, h4⟩ := hst p
        have hactive : (s.station p).state = .active := h2.mp (Option.isSome_iff_ne_none.mpr hrun)
        have hrole : (s.station p).role ≠ .off := fun e => by
          have := h1.mpr e
          rw [hactive] at this
          exact nomatch this
        exact ⟨by simpa using hrole, by simp, by simp, h4⟩
      · exact hst r
    · rw [harb.settings.1, harb.settings.2]
      exact hset
    · refine (leaveActive_recordExact (B := Bound s) (p := p) (fun c => ?_) ?_ true c).mono fun q hq => ?_
      · rw [State.modStation_arbiter]
        exact hrec c
      · intro c hc hb
        rw [State.modStation_same] at hc
        exact hc hb.1.symm
      · rw [halike.bound]
        rw [Bound, State.modStation_other s hq.2]
        exact hq.1

theorem Station.configured_consistent {st : Station} (h : StationConsistent st) (f : StationFields) :
    StationConsistent (st.configured f) := by
  obtain ⟨-, -, -, h4⟩ := h
  have hrank := clampedField_bounds ⟨Nat.zero_le _, h4⟩ f.rank
  refine ⟨?_, by simp [Station.configured]; split <;> simp, ?_, hrank.2⟩
  · simp only [Station.configured]
    split <;> simp_all
  · simp only [Station.configured]
    split <;> simp

theorem forgetLoser_arbiter (p : Fin 4) (s : State) (c : ChannelId) :
    (forgetLoser p s).arbiter c
      = { s.arbiter c with lastLoser := if (s.arbiter c).lastLoser = some p then none else (s.arbiter c).lastLoser } := by
  unfold forgetLoser
  cases c
  · rw [State.modArbiter_other _ (by decide), State.modArbiter_same]
    split <;> rfl
  · rw [State.modArbiter_same, State.modArbiter_other _ (by decide)]
    split <;> rfl

@[simp] theorem forgetLoser_station (p : Fin 4) (s : State) (r : Fin 4) :
    (forgetLoser p s).station r = s.station r := by simp [forgetLoser]

theorem OwnershipSound.reconfigure {s : State} (hs : OwnershipSound s) (p : Fin 4) (f : StationFields) :
    OwnershipSound (reconfigure p f s) := by
  obtain ⟨hst, hset, hrec⟩ := (ownershipSound_iff s).mp hs
  have halike := alikeStations_leaveActive p false s
  have hstation (r : Fin 4) : (Machine.reconfigure p f s).station r
      = if r = p then ((leaveActive p false s).station p).configured f else (leaveActive p false s).station r := by
    rw [Machine.reconfigure, State.modStation_station, forgetLoser_station, forgetLoser_station]
  refine (ownershipSound_iff _).mpr ⟨fun r => ?_, ?_, fun c => ?_⟩
  · rw [hstation]
    split
    · exact Station.configured_consistent ((halike p).consistent (hst p)) f
    · exact (halike r).consistent (hst r)
  · have h := (arbitersOnly_reconfigure p f s).settings
    rw [h.1, h.2]
    exact hset
  · have h := leaveActive_recordExact (B := Bound s) (p := p) hrec (fun c hc hb => hc hb.1.symm) false c
    rw [Machine.reconfigure, State.modStation_arbiter, forgetLoser_arbiter]
    refine (h.mono fun q hq => ?_).withLoser _
    rw [Bound, ← Machine.reconfigure, hstation, if_neg hq.2]
    exact (halike.bound c q).mpr hq.1

/-! ## REPORTs and commands -/

theorem OwnershipSound.answer {s : State} (hs : OwnershipSound s) (p : Fin 4) (status : AnswerStatus) :
    OwnershipSound (answer p status s) := by
  refine hs.modStation p ?_
  unfold Station.offer
  split <;> exact .refl _

theorem movesOnly_applyReport (p : Fin 4) (press : Buttons) (j : Int) (s : State) :
    MovesOnly s (applyReport p press j s) := by
  unfold applyReport
  dsimp only
  generalize (s.station p).channel = c
  generalize decide ((s.arbiter c).owner = some p) = owns
  generalize (owns || decide ((s.station p).role = .operator)) = acts
  have h1 : MovesOnly s (if (acts && press.pause) = true then pausePress c s else s) := by
    split
    · exact movesOnly_pausePress c s
    · exact .refl s
  have h2 (u : State) : MovesOnly u (if (acts && press.next && !press.prev) = true then nextPress c u
      else if (acts && press.prev && !press.next) = true then prevPress c u else u) := by
    split
    · exact movesOnly_nextPress c u
    · split
      · exact movesOnly_prevPress c u
      · exact .refl u
  have h3 (u : State) : MovesOnly u (if (owns && decide (j ≠ 0)) = true then jog c j u else u) := by
    split
    · exact movesOnly_jog c j u
    · exact .refl u
  split
  · exact .refl s
  · split
    · exact ((h1.trans (h2 _)).trans (h3 _)).trans (movesOnly_recompute c _)
    · exact (h1.trans (h2 _)).trans (h3 _)

/-- An accepted REPORT leaves the stations consistent, the held deflection once it is set (R127, R136). -/
theorem OwnershipSound.holdLevels_accept {s : State} (hs : OwnershipSound s) {p : Fin 4}
    (hrole : (s.station p).role ≠ .off) (l : Levels) (d : Int) (takePress releasePress : Bool) :
    OwnershipSound (holdLevels p d takePress releasePress (acceptLevels p l s)) := by
  obtain ⟨hst, hset, hrec⟩ := (ownershipSound_iff s).mp hs
  have hstation (r : Fin 4) : (holdLevels p d takePress releasePress (acceptLevels p l s)).station r
      = if r = p then { s.station p with
          lapse := some s.lapseTime, lastLevels := some l, state := .active, held := some d,
          takeLatch := latchAfter (s.station p).role takePress releasePress (s.station p).takeLatch }
        else s.station r := by
    simp only [holdLevels, acceptLevels, State.modStation_station]
    split <;> simp
  refine (ownershipSound_iff _).mpr ⟨fun r => ?_, hset, fun c => ?_⟩
  · rw [hstation]
    split
    · exact ⟨by simpa using hrole, by simp, by simp, (hst p).2.2.2⟩
    · exact hst r
  · have harb : (holdLevels p d takePress releasePress (acceptLevels p l s)).arbiter c = s.arbiter c := by
      simp [holdLevels, acceptLevels]
    rw [harb]
    refine (hrec c).mono fun q hq => ?_
    rw [Bound, hstation]
    split
    · rename_i e
      exact ⟨e ▸ hq.1, rfl⟩
    · exact hq

theorem OwnershipSound.takeReport {s : State} (hs : OwnershipSound s) {p : Fin 4} (hrole : (s.station p).role ≠ .off)
    (l : Levels) : OwnershipSound (takeReport p l s) := by
  have hsettled := (hs.holdLevels_accept hrole l l.d (pressesOf (s.station p) l.buttons).take
    (pressesOf (s.station p) l.buttons).release).settle (by simp [acceptLevels]) l.j
  refine OwnershipSound.same ?_ (movesOnly_applyReport p _ l.j _).sameOwnership
  split
  · exact hsettled.same (channelsOnly_markPress _ _).movesOnly.sameOwnership
  · exact hsettled

theorem OwnershipSound.completeReport {s : State} (hs : OwnershipSound s) (p : Fin 4) (len : Nat) (body : List Byte)
    (check : Byte) : OwnershipSound (completeReport p len body check s) := by
  unfold Machine.completeReport
  split
  · exact hs.answer p _
  · rename_i hrole
    split
    · exact (hs.modStation p (f := fun st => { st with checkFlag := true }) (.refl _)).answer p _
    · split
      · exact (hs.modStation p (f := fun st => { st with fieldFlag := true }) (.refl _)).answer p _
      · exact (hs.takeReport hrole _).answer p _

theorem OwnershipSound.stationChar {s : State} (hs : OwnershipSound s) (p : Fin 4) (c : LineChar) :
    OwnershipSound (stationChar p c s) := by
  have hfed := hs.modStation p (f := fun st => { st with
    rx := ((s.station p).rx.feed c).1, gap := ((s.station p).rx.feed c).1.gapTimer }) (.refl _)
  unfold Machine.stationChar
  split
  · exact hs
  · dsimp only
    split
    · exact hfed
    · exact hfed.modStation p (.refl _)
    · exact hfed.completeReport p _ _ _

theorem OwnershipSound.stationGap {s : State} (hs : OwnershipSound s) (p : Fin 4) : OwnershipSound (stationGap p s) := by
  unfold Machine.stationGap
  split
  · exact hs
  · exact (hs.modStation p (f := fun st => { st with rx := .hunting, gap := none }) (.refl _)).modStation p (.refl _)

/-- The device-wide settings after STATION SET (R122). -/
theorem OwnershipSound.settings {s : State} (hs : OwnershipSound s) (lapse hand : Option Nat) :
    OwnershipSound { s with
      lapseTime := (lapse.map (clampNat 50 1000)).getD s.lapseTime
      handOff := (hand.map (clampNat 0 5000)).getD s.handOff } := by
  obtain ⟨hst, ⟨h1, h2, h3⟩, hrec⟩ := (ownershipSound_iff s).mp hs
  have hl := clampedField_bounds ⟨h1, h2⟩ lapse
  have hh := clampedField_bounds ⟨Nat.zero_le _, h3⟩ hand
  exact (ownershipSound_iff _).mpr ⟨hst, ⟨hl.1, hl.2, hh.2⟩, fun | .a => hrec .a | .b => hrec .b⟩

theorem OwnershipSound.setting {s t : State} (hs : OwnershipSound s) (h : Setting s t) : OwnershipSound t := by
  cases h with
  | channelRead c =>
    refine hs.same ?_
    unfold statusChannel
    split <;> cases c <;> exact ⟨rfl, rfl, rfl, rfl, rfl⟩
  | stationSet p f lapse hand =>
    split
    · exact (hs.settings lapse hand).reconfigure p f
    · exact hs.settings lapse hand
  | stationRead p => exact hs.modStation p (.refl _)
  | attached q c => exact hs.same ⟨rfl, rfl, rfl, rfl, rfl⟩
  | detached q => exact hs.same ⟨rfl, rfl, rfl, rfl, rfl⟩
  | headRead q => exact hs.same ⟨rfl, rfl, rfl, rfl, rfl⟩
  | clockSet v => exact hs.same ⟨rfl, rfl, rfl, rfl, rfl⟩
  | clockHeld =>
    refine hs.same ?_
    unfold cmdClockHold
    split <;> exact ⟨rfl, rfl, rfl, rfl, rfl⟩
  | clockResumed =>
    refine hs.same ?_
    unfold cmdClockResume
    split <;> exact ⟨rfl, rfl, rfl, rfl, rfl⟩
  | timingRead => exact hs.same ⟨rfl, rfl, rfl, rfl, rfl⟩
  | lead c => exact hs.same ⟨rfl, rfl, rfl, rfl, rfl⟩
  | output o a width level => exact hs.same ⟨rfl, rfl, rfl, rfl, rfl⟩

theorem OwnershipSound.concluded {s t : State} (hs : OwnershipSound s) (hc : Concluded s t) : OwnershipSound t := by
  cases hc with
  | answered u status code payload he =>
    have hu : OwnershipSound u := by
      rcases he.moves_or_sets with hm | hm
      · exact hs.same hm.1.sameOwnership
      · exact hs.setting hm
    exact hu.same ⟨rfl, rfl, rfl, rfl, rfl⟩
  | checking id st hst => exact hs.same ⟨rfl, rfl, rfl, rfl, rfl⟩
  | clearing n u ht =>
    have hm := (movesOnly_unload .a { s with clearInProgress := true }).trans (movesOnly_unload .b _)
    have hu : OwnershipSound u := by
      rw [ht]
      exact OwnershipSound.same (hs.same ⟨rfl, rfl, rfl, rfl, rfl⟩) hm.sameOwnership
    exact hu.same ⟨rfl, rfl, rfl, rfl, rfl⟩
  | recomputing h ha hb => exact hs.same ⟨rfl, rfl, rfl, rfl, rfl⟩

theorem OwnershipSound.tick {s : State} (hs : OwnershipSound s) : OwnershipSound (tick s) := by
  refine hs.of_alike (fun r => ?_) ⟨rfl, rfl⟩ fun c => ?_
  · rw [tick_station]
    exact ⟨rfl, rfl, rfl, rfl, by simp [Timer.tick], rfl, rfl⟩
  · rw [tick_arbiter]
    exact (hs.record c).tick

theorem OwnershipSound.finishGeometry {s : State} (hs : OwnershipSound s) : OwnershipSound (finishGeometry s) := by
  unfold Machine.finishGeometry
  split
  · cases hp : s.pendingHeights with
    | none => simpa [completeGeometry, hp] using hs
    | some h =>
      rw [completeGeometry_eq hp]
      have hadj := (channelsOnly_geometryAdjust .a (measuredState h s)).trans (channelsOnly_geometryAdjust .b _)
      have hmeasured : OwnershipSound (measuredState h s) := hs.same ⟨rfl, rfl, rfl, rfl, rfl⟩
      exact (hmeasured.same hadj.movesOnly.sameOwnership).same ⟨rfl, rfl, rfl, rfl, rfl⟩
  · exact hs

theorem OwnershipSound.channelStep {s : State} (hs : OwnershipSound s) (c : ChannelId) :
    OwnershipSound (channelStep c s) := by
  unfold Machine.channelStep
  split
  · exact hs
  · have hmoved : OwnershipSound (if (s.channel c).state = .live then rampAndMove c s else s) := by
      split
      · exact hs.same (movesOnly_rampAndMove c s).sameOwnership
      · exact hs
    exact hmoved.same ⟨rfl, rfl, rfl, rfl, rfl⟩

theorem sameOwnership_headChar (hd : Fin 4) (c : LineChar) (s : State) : SameOwnership s (headChar hd c s) := by
  unfold headChar
  split
  · exact ⟨rfl, rfl, rfl, rfl, rfl⟩
  · dsimp only
    split
    · exact ⟨rfl, rfl, rfl, rfl, rfl⟩
    · exact ⟨rfl, rfl, rfl, rfl, rfl⟩
    · unfold completeFetch
      split
      · exact ⟨rfl, rfl, rfl, rfl, rfl⟩
      · split <;> exact ⟨rfl, rfl, rfl, rfl, rfl⟩

theorem ownershipSound_kept : Kept Always OwnershipSound where
  unqueue s q hs := hs.same ⟨rfl, rfl, rfl, rfl, rfl⟩
  tick s _ hs := hs.tick
  reset s := show OwnershipSound State.held by decide
  startUp s rate _ hs := by
    unfold startUp
    split
    · exact hs
    · exact hs.same ⟨rfl, rfl, rfl, rfl, rfl⟩
  fed s c _ hs := hs.same ⟨rfl, rfl, rfl, rfl, rfl⟩
  hunting s _ hs := hs.same ⟨rfl, rfl, rfl, rfl, rfl⟩
  slot s code _ hs _ := hs.same ⟨rfl, rfl, rfl, rfl, rfl⟩
  misfit s status code _ hs _ := hs.same ⟨rfl, rfl, rfl, rfl, rfl⟩
  command cmd s hf _ hs _ := hs.concluded (concluded_take hf s)
  sent s _ hs := by
    refine hs.same ?_
    unfold gatewaySent
    split
    · split
      · exact ⟨rfl, rfl, rfl, rfl, rfl⟩
      · split <;> exact ⟨rfl, rfl, rfl, rfl, rfl⟩
    · exact ⟨rfl, rfl, rfl, rfl, rfl⟩
  checked s _ hs := by
    refine hs.same ?_
    unfold finishCheck
    split
    · unfold completeCheck
      split <;> exact ⟨rfl, rfl, rfl, rfl, rfl⟩
    · exact ⟨rfl, rfl, rfl, rfl, rfl⟩
  cleared s _ hs := by
    refine hs.same ?_
    unfold finishClear
    split <;> exact ⟨rfl, rfl, rfl, rfl, rfl⟩
  recomputed s _ hs := hs.finishGeometry
  channelStep s c _ hs := hs.channelStep c
  second s _ hs := by
    refine hs.same ?_
    unfold countSecond
    split <;> exact ⟨rfl, rfl, rfl, rfl, rfl⟩
  pulse s o _ hs := hs.same ⟨rfl, rfl, rfl, rfl, rfl⟩
  stationChar s p c _ hs := hs.stationChar p c
  stationGap s p _ hs := hs.stationGap p
  lapse s p _ hs := hs.lapse p
  answerSent s p _ hs := by
    refine hs.modStation p ?_
    unfold Station.answerSent
    split <;> exact .refl _
  headChar s hd c _ hs := hs.same (sameOwnership_headChar hd c s)
  headGap s hd _ hs := hs.same ⟨rfl, rfl, rfl, rfl, rfl⟩
  headSent s hd _ hs := by
    refine hs.same ?_
    unfold headSent
    split <;> exact ⟨rfl, rfl, rfl, rfl, rfl⟩

/-- Sections 8.1, 9.1 and 9.5.
Settles O58. -/
theorem everyStepKeepsOwnershipExact : Obligations.EveryStepKeepsOwnershipExact :=
  fun _ _ hst => ownershipSound_kept.step hst

end Sys2Proof.Machine
end

section
/-! PROOF. G of every story is the height of the slug band and of its lines, present and pending (R28, R30, R31, R34). -/

namespace Sys2Proof.Machine

/-! ## Heights -/

theorem linesHeight_append (h : Heights) (l m : List Line) :
    linesHeight h (l ++ m) = linesHeight h l + linesHeight h m := by
  simp [linesHeight]

/-- The lines of a story before, within and after the range of a splice (R34). -/
theorem linesHeight_split (h : Heights) (ls : List Line) (k m : Nat) :
    linesHeight h ls = linesHeight h (ls.take (k - 1)) + linesHeight h ((ls.drop (k - 1)).take m)
      + linesHeight h (ls.drop (k - 1 + m)) := by
  rw [← linesHeight_append, ← linesHeight_append]
  congr 1
  rw [← List.take_append_drop (k - 1) ls, List.append_assoc]
  congr 1
  · simp
  · rw [List.take_append_drop, ← List.drop_drop, List.take_append_drop]

theorem geometryOf_splice (h : Heights) {ls : List Line} (new : List Line) (k m : Nat) :
    geometryOf h (spliceLines ls k m new)
      = geometryOf h ls - linesHeight h ((ls.drop (k - 1)).take m) + linesHeight h new := by
  have hsplit := linesHeight_split h ls k m
  simp only [geometryOf, spliceLines, linesHeight_append]
  omega

/-- A line's height is that of its class (R27), whatever else is written to it. -/
theorem linesHeight_congr (h : Heights) {l m : List Line} (he : l.map Line.cls = m.map Line.cls) :
    linesHeight h l = linesHeight h m := by
  have hmap (x : List Line) : x.map (Line.height h) = (x.map Line.cls).map h.of := by
    rw [List.map_map]
    rfl
  rw [linesHeight, linesHeight, hmap, hmap, he]

theorem cls_modify_fired (ls : List Line) (k : Nat) :
    (ls.modify k (fun l => { l with fired := true })).map Line.cls = ls.map Line.cls := by
  refine List.ext_getElem? fun i => ?_
  simp only [List.getElem?_map, List.getElem?_modify]
  cases ls[i]? with
  | none => rfl
  | some l => dsimp only [Option.map_some]; split <;> rfl

theorem cls_map_fired (ls : List Line) (v : Bool) :
    (ls.map (fun l => { l with fired := v })).map Line.cls = ls.map Line.cls := by
  rw [List.map_map]
  rfl

theorem clamped_bounded (h : Heights) : HeightsBounded h.clamped := by
  have hc (lo hi n : Nat) (hle : lo ≤ hi) : clampNat lo hi (clampNat lo hi n) = clampNat lo hi n := by
    have := clampNat_bounds hle n
    unfold clampNat at this ⊢
    omega
  simp [HeightsBounded, Heights.clamped, hc]

/-! ## What keeps the geometry -/

/-- The geometry of one record under the tables in effect and pending. -/
def GeometryOf (s : State) (x : Story) : Prop :=
  x.g = geometryOf s.heights x.lines ∧ (∀ h ∈ s.pendingHeights, x.pendingG = some (geometryOf h x.lines))
    ∧ (s.pendingHeights = none → x.pendingG = none)

theorem geometryExact_iff (s : State) : GeometryExact s ↔
    HeightsBounded s.heights ∧ (∀ h ∈ s.pendingHeights, HeightsBounded h) ∧ ∀ x ∈ s.stories, GeometryOf s x := by
  constructor
  · rintro ⟨h1, h2, h3, h4⟩
    exact ⟨h1, fun h hp => (h3 h hp).1, fun x hx => ⟨h2 x hx, fun h hp => (h3 h hp).2 x hx, fun hn => h4 hn x hx⟩⟩
  · rintro ⟨h1, h2, h3⟩
    exact ⟨h1, fun x hx => (h3 x hx).1, fun h hp => ⟨h2 h hp, fun x hx => (h3 x hx).2.1 h hp⟩,
      fun hn x hx => (h3 x hx).2.2 hn⟩

/-- The record `x` has the geometry of `y`. -/
def SameGeometry (y x : Story) : Prop :=
  x.g = y.g ∧ x.pendingG = y.pendingG ∧ x.lines.map Line.cls = y.lines.map Line.cls

theorem SameGeometry.of {s : State} {x y : Story} (h : SameGeometry y x) (hy : GeometryOf s y) : GeometryOf s x := by
  obtain ⟨h1, h2, h3⟩ := h
  have hg (t : Heights) : geometryOf t x.lines = geometryOf t y.lines := by
    rw [geometryOf, geometryOf, linesHeight_congr t h3]
  simpa only [GeometryOf, h1, h2, hg] using hy

/-- The height tables of `t` are those of `s`. -/
def SameHeights (s t : State) : Prop := t.heights = s.heights ∧ t.pendingHeights = s.pendingHeights

theorem GeometryExact.of_mem {s t : State} (hs : GeometryExact s) (hh : SameHeights s t)
    (h : ∀ x ∈ t.stories, (∃ y ∈ s.stories, SameGeometry y x) ∨ GeometryOf s x) : GeometryExact t := by
  rw [geometryExact_iff] at hs ⊢
  obtain ⟨h1, h2, h3⟩ := hs
  rw [hh.1, hh.2]
  refine ⟨h1, h2, fun x hx => ?_⟩
  have hx' : GeometryOf s x := by
    rcases h x hx with ⟨y, hy, hxy⟩ | hx'
    · exact hxy.of (h3 y hy)
    · exact hx'
  simpa only [GeometryOf, hh.1, hh.2] using hx'

theorem GeometryExact.same {s t : State} (hs : GeometryExact s) (hh : SameHeights s t) (h : t.stories = s.stories) :
    GeometryExact t := hs.of_mem hh fun x hx => .inl ⟨x, h ▸ hx, rfl, rfl, rfl⟩

theorem GeometryExact.modStory {s : State} (hs : GeometryExact s) (id : Nat) {f : Story → Story}
    (hf : ∀ x ∈ s.stories, x.id = id → SameGeometry x (f x) ∨ GeometryOf s (f x)) :
    GeometryExact (s.modStory id f) := by
  refine hs.of_mem ⟨rfl, rfl⟩ fun y hy => ?_
  obtain ⟨x, hx, rfl⟩ := List.mem_map.mp hy
  split
  · rename_i hid
    exact (hf x hx hid).imp_left fun h => ⟨x, hx, h⟩
  · exact .inl ⟨x, hx, rfl, rfl, rfl⟩

theorem GeometryExact.retire {s : State} (hs : GeometryExact s) (id : Nat) : GeometryExact (retire id s) := by
  cases h : s.story? id with
  | none => rwa [retire_absent h]
  | some st =>
    refine hs.of_mem (by rw [retire_frame]; exact ⟨rfl, rfl⟩) fun x hx => .inl ⟨x, ?_, rfl, rfl, rfl⟩
    exact mem_of_mem_removeStory ((retire_live h).1 ▸ hx)

theorem GeometryExact.kill {s : State} (hs : GeometryExact s) (id : Nat) : GeometryExact (kill id s).1 := by
  cases h : s.story? id with
  | none => simpa [Machine.kill, h] using hs
  | some st =>
    rcases kill_cases h with ⟨-, e⟩ | ⟨-, -, e⟩ | ⟨-, -, e⟩ <;> rw [e]
    · exact hs.retire id
    · exact hs
    · exact (hs.modStory id (f := fun x => { x with air := .doomed }) fun _ _ _ => .inl ⟨rfl, rfl, rfl⟩)

theorem Story.left_geometry (c : ChannelId) (kind : LeaveKind) (lead : Bool) (x : Story) :
    SameGeometry x (x.left c kind lead) := by
  rw [Story.left_eq]
  cases c <;> exact ⟨rfl, rfl, rfl⟩

theorem Story.setOpen_geometry (c : ChannelId) (v : Bool) (x : Story) : SameGeometry x (x.setOpen c v) := by
  cases c <;> exact ⟨rfl, rfl, rfl⟩

theorem geometryExact_soft : Soft GeometryExact where
  station s p f hs _ := hs
  marks s c hs := hs
  arbiter s c r hs := hs.same ⟨State.setArbiter_heights s c r, State.setArbiter_pendingHeights s c r⟩
    (State.setArbiter_stories s c r)
  tuned s c ch hs _ := hs.same ⟨State.setChannel_heights s c ch, State.setChannel_pendingHeights s c ch⟩
    (State.setChannel_stories s c ch)
  emptied s c ch hs _ := hs.same ⟨State.setChannel_heights s c ch, State.setChannel_pendingHeights s c ch⟩
    (State.setChannel_stories s c ch)
  left s c id kind hs := leave_keeps c id kind hs (hs.modStory id fun x _ _ => .inl (x.left_geometry c kind _))
    (fun _ hu => hu.retire id) (fun _ hu => hu.kill id)
  entered s c id hs := hs.modStory id fun x _ _ => .inl (x.setOpen_geometry c true)
  reported s c id k hs := by
    rcases reportLine_cases c id k s with h | ⟨_, l, o, _, _, _, h⟩ <;> rw [h]
    · exact hs
    · exact (hs.modStory id (f := fun st => { st with
        lines := st.lines.modify (k - 1) (fun l => { l with fired := true }) })
        fun x _ _ => .inl ⟨rfl, rfl, cls_modify_fired _ _⟩)

theorem geometryExact_headless : Headless GeometryExact := fun _ _ hs => hs

theorem GeometryExact.channelsOnly {s t : State} (hs : GeometryExact s) (h : ChannelsOnly s t) : GeometryExact t :=
  hs.same (by rw [h]; exact ⟨rfl, rfl⟩) (by rw [h])

theorem Setting.heights {s t : State} (h : Setting s t) : t.heights = s.heights := by
  cases h with
  | channelRead c =>
    unfold statusChannel
    split <;> cases c <;> rfl
  | stationSet p f lapse hand =>
    split
    · rw [arbitersOnly_reconfigure p f _]
    · rfl
  | stationRead p => rfl
  | attached q c => rfl
  | detached q => rfl
  | headRead q => rfl
  | clockSet v => rfl
  | clockHeld => unfold cmdClockHold; split <;> rfl
  | clockResumed => unfold cmdClockResume; split <;> rfl
  | timingRead => rfl
  | lead c => rfl
  | output o a width level => rfl

/-- Every effect of a command keeps the geometry while no recompute is in flight. -/
theorem GeometryExact.effect {s t : State} (hs : GeometryExact s) (hp : s.pendingHeights = none) (he : Effect s t) :
    GeometryExact t := by
  have setting {u : State} (h : Setting s u) : GeometryExact u :=
    hs.same ⟨h.heights, h.link_and_stories.2.2.2⟩ h.link_and_stories.2.1
  have fresh {x : Story} (hg : x.g = geometryOf s.heights x.lines) (hx : x.pendingG = none) : GeometryOf s x :=
    ⟨hg, fun _ hh => (nomatch hp.symm.trans hh), fun _ => hx⟩
  cases he with
  | nothing => exact hs
  | inserted id anchor h0 hid hnew hroom =>
    have hin : GeometryExact { s with stories := insertAfter anchor (Story.create id s.heights.slugBand) s.stories } := by
      refine hs.of_mem ⟨rfl, rfl⟩ fun x hx => ?_
      rcases List.mem_cons.mp ((insertAfter_perm anchor _ _).mem_iff.mp hx) with rfl | hx
      · exact .inr (fresh rfl rfl)
      · exact .inl ⟨x, hx, rfl, rfl, rfl⟩
    exact hin.channelsOnly (channelsOnly_orderNotice _)
  | moved id anchor st hst =>
    have hin : GeometryExact { s with stories := insertAfter anchor st (removeStory id s.stories) } := by
      refine hs.of_mem ⟨rfl, rfl⟩ fun x hx => .inl ⟨x, ?_, rfl, rfl, rfl⟩
      rcases List.mem_cons.mp ((insertAfter_perm anchor _ _).mem_iff.mp hx) with rfl | hx
      · exact State.story?_mem hst
      · exact mem_of_mem_removeStory hx
    exact hin.channelsOnly (channelsOnly_orderNotice _)
  | floated id st hst hair hf =>
    exact hs.modStory id (f := fun x => { x with floated := true }) fun _ _ _ => .inl ⟨rfl, rfl, rfl⟩
  | restored id st hst hair hf =>
    have h : GeometryExact { s.modStory id (fun x => { x with floated := false }) with pt := s.pt + st.seconds } :=
      hs.modStory id (f := fun x => { x with floated := false }) fun _ _ _ => .inl ⟨rfl, rfl, rfl⟩
    exact h.channelsOnly (channelsOnly_orderNotice _)
  | killed id => exact hs.kill id
  | written id st st' hst hair hw =>
    have hgeo : GeometryOf s st' := SameGeometry.of (y := st) (by rw [hw.1]; exact ⟨rfl, rfl, rfl⟩)
      (((geometryExact_iff s).mp hs).2.2 st (State.story?_mem hst))
    exact hs.modStory id (f := fun _ => st') fun _ _ _ => .inr hgeo
  | locked id l => exact hs.modStory id fun _ _ _ => .inl ⟨rfl, rfl, rfl⟩
  | spliced id k m st ls h =>
    obtain ⟨hg, -, hnone⟩ := ((geometryExact_iff s).mp hs).2.2 st (State.story?_mem h.live)
    have hgeo : GeometryOf s (st.spliced s.heights k m ls) := by
      refine fresh ?_ (hnone hp)
      simp only [Story.spliced]
      rw [geometryOf_splice, ← hg]
    have hbase : GeometryExact { s.modStory id (fun _ => st.spliced s.heights k m ls) with
        freeLines := s.freeLines + m - ls.length } :=
      hs.modStory id (f := fun _ => st.spliced s.heights k m ls) fun _ _ _ => .inr hgeo
    exact (hbase.channelsOnly (channelsOnly_spliceNoticeAt .a id k m _ _)).channelsOnly
      (channelsOnly_spliceNoticeAt .b id k m _ _)
  | rearmed id => exact hs.modStory id fun x _ _ => .inl ⟨rfl, rfl, cls_map_fired x.lines false⟩
  | loaded c id k st hst hr =>
    have hleft : GeometryExact (match (s.channel c).readPoint with
        | some old => leave c old.story .neutral s
        | none => s) := by
      split
      · exact geometryExact_soft.left s c _ _ hs
      · exact hs
    exact (geometryExact_soft.calm.atRest (geometryExact_soft.enter (geometryExact_soft.place hleft c _) c _) c).channelsOnly
      (channelsOnly_modChannel c _ _)
  | ran c h => exact (hs.channelsOnly (channelsOnly_modChannel c _ s)).channelsOnly (channelsOnly_recompute c _)
  | parked c h => exact hs.channelsOnly (channelsOnly_modChannel c _ s)
  | unloaded c => exact geometryExact_soft.unload hs c
  | tuned c f curve => exact (hs.channelsOnly (channelsOnly_modChannel c _ s)).channelsOnly (channelsOnly_recompute c _)
  | channelRead c => exact setting (.channelRead c)
  | stationSet p f lapse hand => exact setting (.stationSet p f lapse hand)
  | stationRead p => exact setting (.stationRead p)
  | attached h c => exact setting (.attached h c)
  | detached h => exact setting (.detached h)
  | headRead h => exact setting (.headRead h)
  | clockSet v => exact setting (.clockSet v)
  | clockHeld => exact setting .clockHeld
  | clockResumed => exact setting .clockResumed
  | timingRead => exact setting .timingRead
  | lead c => exact setting (.lead c)
  | output o a width level => exact setting (.output o a width level)

theorem GeometryExact.concluded {s t : State} (hs : GeometryExact s) (hp : s.pendingHeights = none)
    (hc : Concluded s t) : GeometryExact t := by
  cases hc with
  | answered u status code payload he =>
    have hu := hs.effect hp he
    exact hu
  | checking id st hst =>
    have h := hs.modStory id (f := fun x => { x with checkInFlight := true }) fun _ _ _ => .inl ⟨rfl, rfl, rfl⟩
    exact h
  | clearing n u ht =>
    have hu : GeometryExact u := by
      rw [ht]
      exact geometryExact_soft.unload (geometryExact_soft.unload (s := { s with clearInProgress := true }) hs .a) .b
    exact hu
  | recomputing h ha hb =>
    rw [geometryExact_iff] at hs ⊢
    refine ⟨hs.1, fun g hg => ?_, fun y hy => ?_⟩
    · cases hg
      exact clamped_bounded h
    · obtain ⟨x, hx, rfl⟩ := List.mem_map.mp hy
      refine ⟨(hs.2.2 x hx).1, fun g hg => ?_, fun hn => nomatch hn⟩
      cases hg
      rfl

theorem GeometryExact.measured {s : State} (hs : GeometryExact s) {h : Heights} (hp : s.pendingHeights = some h) :
    GeometryExact (measuredState h s) := by
  rw [geometryExact_iff] at hs ⊢
  refine ⟨hs.2.1 h hp, fun g hg => (nomatch hg), fun y hy => ?_⟩
  obtain ⟨x, hx, rfl⟩ := List.mem_map.mp hy
  refine ⟨?_, fun g hg => (nomatch hg), fun _ => rfl⟩
  have := (hs.2.2 x hx).2.1 h hp
  simp only [this, Option.getD_some]
  rfl

theorem GeometryExact.finishGeometry {s : State} (hs : GeometryExact s) : GeometryExact (finishGeometry s) := by
  unfold Machine.finishGeometry
  split
  · cases hp : s.pendingHeights with
    | none => simpa [completeGeometry, hp] using hs
    | some h =>
      rw [completeGeometry_eq hp]
      have hadj := ((hs.measured hp).channelsOnly (channelsOnly_geometryAdjust .a _)).channelsOnly
        (channelsOnly_geometryAdjust .b _)
      exact hadj
  · exact hs

theorem GeometryExact.finishCheck {s : State} (hs : GeometryExact s) : GeometryExact (finishCheck s) := by
  unfold Machine.finishCheck
  split
  · rename_i id _
    have h := hs.modStory id (f := fun x => { x with checkInFlight := false }) fun _ _ _ => .inl ⟨rfl, rfl, rfl⟩
    unfold completeCheck
    split
    · exact hs
    · exact h
  · exact hs

theorem GeometryExact.finishClear {s : State} (hs : GeometryExact s) : GeometryExact (finishClear s) := by
  unfold Machine.finishClear
  split
  · have h : GeometryExact (completeClear s) := hs.of_mem ⟨rfl, rfl⟩ (List.forall_mem_nil _)
    exact h
  · exact hs

theorem geometryExact_kept : Kept OperationsExact GeometryExact where
  unqueue s q hs := hs
  tick s _ hs := hs
  reset s := (geometryExact_iff _).mpr ⟨(show HeightsBounded State.held.heights by decide), fun h hh => (nomatch hh), List.forall_mem_nil _⟩
  startUp s rate _ hs := by
    unfold startUp
    split <;> exact hs
  fed s c _ hs := hs
  hunting s _ hs := hs
  slot s code _ hs _ := hs
  misfit s status code _ hs _ := hs
  command cmd s hf ho hs hi := hs.concluded (ho.quiet hi).2.2 (concluded_take hf s)
  sent s _ hs := by
    unfold gatewaySent
    split
    · split
      · exact hs
      · split <;> exact hs
    · exact hs
  checked s _ hs := hs.finishCheck
  cleared s _ hs := hs.finishClear
  recomputed s _ hs := hs.finishGeometry
  channelStep s c _ hs := geometryExact_soft.moves.channelStep geometryExact_headless hs c
  second s _ hs := by
    unfold countSecond
    split <;> exact hs
  pulse s o _ hs := hs
  stationChar s p c _ hs := geometryExact_soft.moves.stationChar hs p c
  stationGap s p _ hs := geometryExact_soft.moves.stationGap hs p
  lapse s p _ hs := geometryExact_soft.calm.lapse hs p
  answerSent s p _ hs := hs
  headChar s hd c _ hs := geometryExact_headless.headChar hs hd c
  headGap s hd _ hs := hs
  headSent s hd _ hs := geometryExact_headless.headSent hs hd

theorem geometrySound_kept : Kept Always (fun s => OperationsExact s ∧ GeometryExact s) :=
  operationsExact_kept.and (geometryExact_kept.mono fun _ h => h.2)

end Sys2Proof.Machine
end

section
/-! PROOF. A DOOMED story is held by a channel (R9), and the open sets are those of the read points (R5, R44). -/

namespace Sys2Proof.Machine

/-! ## DOOMED stories (R9) -/

/-- The record is not a DOOMED one that no channel is in. -/
abbrev Held (x : Story) : Prop := x.air = .doomed → x.openEmpty = false

theorem held_of_eq {x y : Story} (hx : Held x) (hair : y.air = x.air) (ha : y.openA = x.openA)
    (hb : y.openB = x.openB) : Held y := by
  simpa only [Held, Story.openEmpty, hair, ha, hb] using hx

theorem DoomedHeld.of_mem {s t : State} (hs : DoomedHeld s) (h : ∀ x ∈ t.stories, x ∈ s.stories ∨ Held x) :
    DoomedHeld t := fun x hx => (h x hx).elim (hs x) id

theorem DoomedHeld.modStory {s : State} (hs : DoomedHeld s) (id : Nat) {f : Story → Story}
    (hf : ∀ x ∈ s.stories, x.id = id → Held x → Held (f x)) : DoomedHeld (s.modStory id f) := by
  intro y hy
  obtain ⟨x, hx, rfl⟩ := List.mem_map.mp hy
  split
  · rename_i hid
    exact hf x hx hid (hs x hx)
  · exact hs x hx

theorem DoomedHeld.retire {s : State} (hs : DoomedHeld s) (id : Nat) : DoomedHeld (retire id s) := by
  cases h : s.story? id with
  | none => rwa [retire_absent h]
  | some st => exact hs.of_mem fun x hx => .inl (mem_of_mem_removeStory ((retire_live h).1 ▸ hx))

/-- The record of a live story is the only one with its ID. -/
theorem eq_of_story? {s : State} (hd : StoriesDistinct s) {id : Nat} {st x : Story} (hst : s.story? id = some st)
    (hx : x ∈ s.stories) (hid : x.id = id) : x = st := by
  have h := State.story?_of_mem hd.1 hx
  rw [hid, hst] at h
  exact (Option.some_inj.mp h).symm

theorem DoomedHeld.kill {s : State} (hd : StoriesDistinct s) (hs : DoomedHeld s) (id : Nat) :
    DoomedHeld (kill id s).1 := by
  cases h : s.story? id with
  | none => simpa [Machine.kill, h] using hs
  | some st =>
    rcases kill_cases h with ⟨-, e⟩ | ⟨-, -, e⟩ | ⟨ho, -, e⟩ <;> rw [e]
    · exact hs.retire id
    · exact hs
    · refine (hs.modStory id (f := fun x => { x with air := .doomed }) fun x hx hid _ _ => ?_)
      exact eq_of_story? hd h hx hid ▸ ho

theorem DoomedHeld.leave {s : State} (hd : StoriesDistinct s) (hs : DoomedHeld s) (c : ChannelId) (id : Nat)
    (kind : LeaveKind) : DoomedHeld (leave c id kind s) := by
  cases h : s.story? id with
  | none => rwa [leave_absent h]
  | some st =>
    have hunique {x : Story} (hx : x ∈ s.stories) (hid : x.id = id) := eq_of_story? hd h hx hid
    have hdistinct : StoriesDistinct (s.modStory id (Story.left c kind (decide (s.cues.lead = c)))) :=
      hd.modStory fun x hx => by simpa using hx
    have hleft (hst : Held (st.left c kind (decide (s.cues.lead = c)))) :
        DoomedHeld (s.modStory id (Story.left c kind (decide (s.cues.lead = c)))) :=
      hs.modStory id fun x hx hid _ => hunique hx hid ▸ hst
    rcases leave_cases h c kind with ⟨-, -, e⟩ | ⟨-, ho, e⟩ | ⟨hair, -, -, -, -, e⟩ | ⟨hair, -, e⟩ <;> rw [e]
    · intro x hx
      have hst : (s.modStory id (Story.left c kind (decide (s.cues.lead = c)))).story? id
          = some (st.left c kind (decide (s.cues.lead = c))) := State.story?_modStory h fun x => Story.left_id c kind _ x
      rw [(retire_live hst).1, removeStory_modStory s id fun x => Story.left_id c kind _ x] at hx
      exact hs x (mem_of_mem_removeStory hx)
    · exact hleft fun _ => ho
    · exact DoomedHeld.kill hdistinct (hleft fun hn => absurd hn hair) id
    · exact hleft fun hn => absurd hn hair

theorem held_setOpen_true (c : ChannelId) (x : Story) : Held (x.setOpen c true) := by
  intro _
  cases c <;> simp [Story.setOpen, Story.openEmpty]

theorem doomedHeld_books : Books (fun s => StoriesDistinct s ∧ DoomedHeld s) where
  same s t h hs := by
    obtain ⟨h1, -, -⟩ := h
    simpa only [StoriesDistinct, DoomedHeld, h1] using hs
  empty s h1 _ _ := by simp [StoriesDistinct, DoomedHeld, h1]
  cleared s hs := ⟨⟨List.nodup_nil, Nat.zero_le _, List.forall_mem_nil _⟩, List.forall_mem_nil _⟩
  left s c id kind hs := ⟨leave_keeps c id kind hs.1 (hs.1.modStory fun x hx => by simpa using hx)
    (fun _ hu => hu.retire id) (fun _ hu => hu.kill id), DoomedHeld.leave hs.1 hs.2 c id kind⟩
  killed s id hs := ⟨hs.1.kill id, DoomedHeld.kill hs.1 hs.2 id⟩
  opened s c id hs :=
    ⟨hs.1.modStory fun x hx => by rwa [Story.setOpen_id], hs.2.modStory id fun x _ _ _ => held_setOpen_true c x⟩
  fired s id k _ _ hs _ _ _ := ⟨hs.1.modStory fun _ hx => hx, hs.2.modStory id fun _ _ _ hx => hx⟩
  checked s id v hs := ⟨hs.1.modStory fun _ hx => hx, hs.2.modStory id fun _ _ _ hx => hx⟩
  pended s g hs := ⟨hs.1.map (fun st => { st with pendingG := some (g st.lines) }) (fun _ => rfl) rfl, fun y hy => by
    obtain ⟨x, hx, rfl⟩ := List.mem_map.mp hy
    exact hs.2 x hx⟩
  measured s hs := ⟨hs.1.map (fun st => { st with g := st.pendingG.getD st.g, pendingG := none }) (fun _ => rfl) rfl,
    fun y hy => by
      obtain ⟨x, hx, rfl⟩ := List.mem_map.mp hy
      exact hs.2 x hx⟩
  inserted s id anchor slugBand hs h0 hid hnew hroom := ⟨hs.1.insert h0 hid hnew hroom rfl, hs.2.of_mem fun x hx => by
    rcases List.mem_cons.mp ((insertAfter_perm anchor _ _).mem_iff.mp hx) with rfl | hx
    · exact .inr fun hn => nomatch hn
    · exact .inl hx⟩
  moved s id anchor st hs hst :=
    have hp := perm_move hs.1.1 hst anchor
    ⟨hs.1.of_perm hp, hs.2.of_mem fun _ hx => .inl (hp.mem_iff.mp hx)⟩
  floated s id st hs hst _ _ := ⟨hs.1.modStory (f := fun x => { x with floated := true }) fun _ hx => hx,
    hs.2.modStory id (f := fun x => { x with floated := true }) fun _ _ _ hx => hx⟩
  restored s id st hs hst _ _ := ⟨hs.1.modStory (f := fun x => { x with floated := false }) fun _ hx => hx,
    hs.2.modStory id (f := fun x => { x with floated := false }) fun _ _ _ hx => hx⟩
  written s id st st' hs hst hair hw :=
    ⟨hs.1.modStory (f := fun _ => st') fun _ _ =>
        (congrArg Story.id hw.1).trans (show st.id = id from State.story?_id hst),
      hs.2.modStory id (f := fun _ => st') fun _ _ _ _ hn => absurd hn (by rw [hw.1]; exact hair)⟩
  locked s id l hs := ⟨hs.1.modStory fun _ hx => hx, hs.2.modStory id fun _ _ _ hx => hx⟩
  spliced s id k m st ls hs h :=
    ⟨hs.1.modStory (f := fun _ => st.spliced s.heights k m ls) fun _ _ => show st.id = id from State.story?_id h.live,
      hs.2.modStory id (f := fun _ => st.spliced s.heights k m ls) fun _ _ _ _ =>
        held_of_eq (x := st) (hs.2 st (State.story?_mem h.live)) rfl rfl rfl⟩
  rearmed s id hs := ⟨hs.1.modStory fun _ hx => hx, hs.2.modStory id fun _ _ _ hx => hx⟩

/-! ## The stories ahead and behind -/

theorem readableAfter_sublist (s : State) (id : Nat) : (s.readableAfter id).Sublist (s.stories.map Story.id) :=
  (List.filter_sublist.trans ((List.drop_sublist 1 _).trans (List.dropWhile_sublist _))).map Story.id

theorem readableBefore_sublist_reverse (s : State) (id : Nat) :
    (s.readableBefore id).Sublist (s.stories.map Story.id).reverse := by
  rw [← List.map_reverse]
  exact (List.filter_sublist.trans (List.takeWhile_sublist _).reverse).map Story.id

theorem isLive_of_readableAfter {s : State} {id i : Nat} (h : i ∈ s.readableAfter id) : s.isLive i = true :=
  State.isLive_iff_mem.mpr ((readableAfter_sublist s id).subset h)

theorem isLive_of_readableBefore {s : State} {id i : Nat} (h : i ∈ s.readableBefore id) : s.isLive i = true :=
  State.isLive_iff_mem.mpr (List.mem_reverse.mp ((readableBefore_sublist_reverse s id).subset h))

/-- A story is not among those that come after it. -/
theorem not_mem_readableAfter {s : State} (hd : (s.stories.map Story.id).Nodup) (id : Nat) :
    id ∉ s.readableAfter id := by
  intro h
  obtain ⟨x, hx, hid⟩ := List.mem_map.mp h
  have hmem := (List.mem_filter.mp hx).1
  have hsplit := List.takeWhile_append_dropWhile (p := fun st : Story => st.id != id) (l := s.stories)
  cases hrest : s.stories.dropWhile (fun st => st.id != id) with
  | nil =>
    rw [hrest] at hmem
    exact nomatch hmem
  | cons y ys =>
    rw [hrest] at hmem
    have hy : y.id = id := by
      have := List.head_dropWhile_not (fun st : Story => st.id != id) (l := s.stories) (by simp [hrest])
      simpa [hrest] using this
    have hnodup := hd.sublist ((List.dropWhile_sublist (fun st : Story => st.id != id)).map Story.id)
    rw [hrest, List.map_cons, List.nodup_cons] at hnodup
    exact hnodup.1 (hy ▸ hid ▸ List.mem_map_of_mem hmem)

/-- A story is not among those that come before it. -/
theorem not_mem_readableBefore (s : State) (id : Nat) : id ∉ s.readableBefore id := by
  intro h
  obtain ⟨x, hx, hid⟩ := List.mem_map.mp h
  have hne := List.all_eq_true.mp List.all_takeWhile x (List.mem_reverse.mp (List.mem_filter.mp hx).1)
  exact (bne_iff_ne.mp hne) hid

/-! ## The stories after a leave -/

/-- What a leave does to the list of stories: nothing to a story that is not live; otherwise the story goes, no channel
being left in it, or its record is written. -/
theorem leave_stories (c : ChannelId) (id : Nat) (kind : LeaveKind) (s : State) :
    (s.story? id = none ∧ (leave c id kind s).stories = s.stories)
      ∨ (∃ st, s.story? id = some st ∧ (st.setOpen c false).openEmpty = true
          ∧ (leave c id kind s).stories = removeStory id s.stories)
      ∨ (∃ (st : Story) (a : Story → AirState), s.story? id = some st ∧ (∀ x : Story, x.air = .doomed → a x = AirState.doomed)
          ∧ (leave c id kind s).stories = (s.modStory id (fun x => { x.setOpen c false with air := a x })).stories) := by
  rw [leave_eq_leftBy]
  unfold State.leftBy
  split
  · rename_i h
    exact .inl ⟨h, rfl⟩
  · rename_i st h
    dsimp only
    split
    · rename_i hgone
      exact .inr (.inl ⟨st, h, hgone.1, rfl⟩)
    · refine .inr (.inr ⟨st, _, h, fun x hx => ?_, rfl⟩)
      split
      · rfl
      · rw [hx]
        unfold airLeft
        split
        · cases kind <;> rfl
        · rfl

theorem isLive_leave {c : ChannelId} {id i : Nat} {kind : LeaveKind} {s : State} (h : i ≠ id) :
    (leave c id kind s).isLive i = s.isLive i := by
  rw [Bool.eq_iff_iff, State.isLive_iff_mem, State.isLive_iff_mem]
  rcases leave_stories c id kind s with ⟨-, e⟩ | ⟨st, -, -, e⟩ | ⟨st, a, -, -, e⟩ <;> rw [e]
  · simp only [removeStory, List.mem_map, List.mem_filter, bne_iff_ne, ne_eq]
    constructor
    · rintro ⟨x, ⟨hx, -⟩, rfl⟩
      exact ⟨x, hx, rfl⟩
    · rintro ⟨x, hx, rfl⟩
      exact ⟨x, ⟨hx, h⟩, rfl⟩
  · rw [modStory_ids_of_id]
    intro x hx
    simpa using hx

theorem isLive_enter (c : ChannelId) (id i : Nat) (s : State) : (enter c id s).isLive i = s.isLive i := by
  rw [Bool.eq_iff_iff, State.isLive_iff_mem, State.isLive_iff_mem, enter, State.modChannel_stories,
    modStory_ids_of_id]
  intro x hx
  simpa using hx

/-- A crossing takes no story away but the one it leaves. -/
theorem isLive_cross {c : ChannelId} {old i : Nat} {kind : LeaveKind} {rp : ReadPoint} {s : State} (h : i ≠ old) :
    (cross c old kind rp s).isLive i = s.isLive i := by
  rw [cross, isLive_enter, isLive_leave h, State.place_isLive]

theorem isLive_reportLine (c : ChannelId) (id k i : Nat) (s : State) : (reportLine c id k s).isLive i = s.isLive i := by
  rcases reportLine_cases c id k s with h | ⟨_, l, o, _, _, _, h⟩ <;> rw [h]
  rw [Bool.eq_iff_iff, State.isLive_iff_mem, State.isLive_iff_mem]
  show _ ∈ (s.modStory id (fun st => { st with lines := st.lines.modify (k - 1) (fun l => { l with fired := true }) })
    ).stories.map Story.id ↔ _
  rw [modStory_ids_of_id s (f := fun st => { st with
    lines := st.lines.modify (k - 1) (fun l => { l with fired := true }) }) fun _ hx => hx]

theorem isLive_reportLines (c : ChannelId) (id i : Nat) (ks : List Nat) (s : State) :
    (reportLines c id ks s).isLive i = s.isLive i := by
  unfold reportLines
  induction ks generalizing s with
  | nil => rfl
  | cons k ks ih => exact (ih _).trans (isLive_reportLine c id k i s)

@[simp] theorem reportLine_channel (c : ChannelId) (id k : Nat) (s : State) (d : ChannelId) :
    (reportLine c id k s).channel d = s.channel d := by
  rcases reportLine_cases c id k s with h | ⟨_, l, o, _, _, _, h⟩ <;> rw [h]
  cases d <;> rfl

@[simp] theorem reportLines_channel (c : ChannelId) (id : Nat) (ks : List Nat) (s : State) (d : ChannelId) :
    (reportLines c id ks s).channel d = s.channel d := by
  unfold reportLines
  induction ks generalizing s with
  | nil => rfl
  | cons k ks ih => exact (ih _).trans (reportLine_channel c id k s d)

end Sys2Proof.Machine
end

section
/-! PROOF. The open sets hold exactly the channels whose read point lies in the story (R5, R9, R44). -/

namespace Sys2Proof.Machine

/-! ## A property that each crossing keeps as a whole -/

/-- What writes a channel's record without a crossing keeps the property, and so does each crossing into another live
story. -/
structure Travels (P : State → Prop) : Prop where
  distinct : ∀ s, P s → (s.stories.map Story.id).Nodup
  station : ∀ s p (f : Station → Station), P s → P (s.modStation p f)
  marks : ∀ s c, P s → P (clearMarks c s)
  arbiter : ∀ s c r, P s → P (s.setArbiter c r)
  stays : ∀ s c ch, P s → ch.state = (s.channel c).state → ch.storyId = (s.channel c).storyId → P (s.setChannel c ch)
  crossed : ∀ s c old kind rp, P s → (s.channel c).storyId = some old → s.isLive rp.story = true → rp.story ≠ old →
    P (cross c old kind rp s)
  reported : ∀ s c id k, P s → P (reportLine c id k s)

namespace Travels

variable {P : State → Prop}

theorem calm (hP : Travels P) : Calm P where
  station s p f h _ := hP.station s p f h
  marks := hP.marks
  arbiter := hP.arbiter
  calm s c ch h ht hu := hP.stays s c ch h ht.1 (by rw [Channel.storyId, hu.1]; rfl)

theorem writes (hP : Travels P) {s : State} (h : P s) {c : ChannelId} {f : Channel → Channel}
    (hstate : (f (s.channel c)).state = (s.channel c).state)
    (hid : (f (s.channel c)).storyId = (s.channel c).storyId) : P (s.modChannel c f) :=
  hP.stays s c _ h hstate hid

theorem place (hP : Travels P) {s : State} (h : P s) {c : ChannelId} {rp : ReadPoint}
    (hrp : (s.channel c).storyId = some rp.story) : P (s.place c rp) :=
  hP.stays s c _ h rfl hrp.symm

theorem clampEnd (hP : Travels P) {s : State} (h : P s) {c : ChannelId} {st : Story} (byStep : Bool)
    (hst : (s.channel c).storyId = some st.id) : P (clampEnd c st byStep s) := by
  refine hP.calm.recompute (hP.writes h ?_ ?_) c
  · rfl
  · exact hst.symm

theorem clampStart (hP : Travels P) {s : State} (h : P s) {c : ChannelId} {st : Story} (byStep : Bool)
    (hst : (s.channel c).storyId = some st.id) : P (clampStart c st byStep s) := by
  refine hP.calm.recompute (hP.writes h ?_ ?_) c
  · rfl
  · exact hst.symm

theorem reportLines (hP : Travels P) (c : ChannelId) (id : Nat) (ks : List Nat) {s : State} (h : P s) :
    P (reportLines c id ks s) := by
  unfold Machine.reportLines
  induction ks generalizing s with
  | nil => exact h
  | cons k ks ih => exact ih (hP.reported s c id k h)

theorem storyId_of_readPoint {ch : Channel} {rp : ReadPoint} (h : ch.readPoint = some rp) :
    ch.storyId = some rp.story := by rw [Channel.storyId, h]; rfl

/-- A crossing into a story ahead or behind. -/
theorem crossNext (hP : Travels P) {s : State} (h : P s) {c : ChannelId} {id next : Nat} {rest : List Nat}
    (hid : (s.channel c).storyId = some id) (hnext : s.readableAfter id = next :: rest) (kind : LeaveKind)
    (k o frac : Nat) : P (cross c id kind ⟨next, k, o, frac⟩ s) := by
  have hmem : next ∈ s.readableAfter id := hnext ▸ List.mem_cons_self
  refine hP.crossed s c id kind _ h hid (isLive_of_readableAfter hmem) fun e => ?_
  exact not_mem_readableAfter (hP.distinct s h) id (e ▸ hmem)

theorem crossBefore (hP : Travels P) {s : State} (h : P s) {c : ChannelId} {id before : Nat} {rest : List Nat}
    (hid : (s.channel c).storyId = some id) (hbefore : s.readableBefore id = before :: rest) (kind : LeaveKind)
    (k o frac : Nat) : P (cross c id kind ⟨before, k, o, frac⟩ s) := by
  have hmem : before ∈ s.readableBefore id := hbefore ▸ List.mem_cons_self
  refine hP.crossed s c id kind _ h hid (isLive_of_readableBefore hmem) fun e => ?_
  exact not_mem_readableBefore s id (e ▸ hmem)

theorem stepForward (hP : Travels P) {s : State} (h : P s) (c : ChannelId) (u : Nat) : P (stepForward c u s) := by
  unfold Machine.stepForward
  split
  · exact h
  · rename_i rp hrp
    split
    · exact h
    · rename_i st hst
      have hid : (s.channel c).storyId = some st.id := by
        rw [storyId_of_readPoint hrp, State.story?_id hst]
      dsimp only
      split
      · exact hP.calm.movedForward (hP.place h hid) c
      · split
        · exact hP.reported _ c _ _ (hP.calm.movedForward (hP.place h hid) c)
        · split
          · exact hP.clampEnd h _ hid
          · rename_i hnext
            exact hP.calm.movedForward (hP.crossNext h hid hnext .forward _ _ _) c

theorem stepBackward (hP : Travels P) {s : State} (h : P s) (c : ChannelId) (u : Nat) : P (stepBackward c u s) := by
  unfold Machine.stepBackward
  split
  · exact h
  · rename_i rp hrp
    split
    · exact h
    · rename_i st hst
      have hid : (s.channel c).storyId = some st.id := by
        rw [storyId_of_readPoint hrp, State.story?_id hst]
      dsimp only
      split
      · exact hP.calm.movedBackward (hP.place h hid) c
      · split
        · exact hP.calm.movedBackward (hP.place h hid) c
        · split
          · exact hP.clampStart h _ hid
          · rename_i hbefore
            split
            · exact h
            · rename_i hst'
              rw [State.story?_id hst']
              exact hP.calm.movedBackward (hP.crossBefore h hid hbefore .backward _ _ _) c

theorem rampAndMove (hP : Travels P) {s : State} (h : P s) (c : ChannelId) : P (rampAndMove c s) := by
  have hramp := hP.stays s c { s.channel c with
    speed := ramp (s.channel c).tuning (s.channel c).speed (s.channel c).target } h rfl rfl
  unfold Machine.rampAndMove
  dsimp only
  split
  · exact hP.stepForward hramp c _
  · split
    · exact hP.stepBackward hramp c _
    · exact hramp

/-- The stories a walk may still cross into: live, distinct and not the one it stands in. -/
structure Path (s : State) (c : ChannelId) (ids : List Nat) : Prop where
  live : ∀ i ∈ ids, s.isLive i = true
  nodup : ids.Nodup
  elsewhere : ∀ id, (s.channel c).storyId = some id → id ∉ ids

theorem cross_storyId (c : ChannelId) (old : Nat) (kind : LeaveKind) (rp : ReadPoint) (s : State) :
    ((cross c old kind rp s).channel c).storyId = some rp.story := by
  simp [cross, enter, Channel.storyId]

theorem Path.reported {s : State} {c : ChannelId} {ids : List Nat} (h : Path s c ids) (id : Nat) (ks : List Nat) :
    Path (Machine.reportLines c id ks s) c ids := by
  refine ⟨fun i hi => ?_, h.nodup, ?_⟩
  · rw [isLive_reportLines]
    exact h.live i hi
  · rw [reportLines_channel]
    exact h.elsewhere

/-- After the crossing into the first of its stories a walk has the rest before it. -/
theorem Path.crossed {s : State} {c : ChannelId} {old next : Nat} {rest : List Nat} (h : Path s c (next :: rest))
    (hid : (s.channel c).storyId = some old) (kind : LeaveKind) (k o frac : Nat) :
    Path (cross c old kind ⟨next, k, o, frac⟩ s) c rest := by
  obtain ⟨hlive, hnodup, helse⟩ := h
  have hne := helse old hid
  rw [List.nodup_cons] at hnodup
  refine ⟨fun i hi => ?_, hnodup.2, fun id hc => ?_⟩
  · rw [isLive_cross (i := i) (old := old) fun e => hne (List.mem_cons_of_mem _ (e ▸ hi))]
    exact hlive i (List.mem_cons_of_mem _ hi)
  · rw [cross_storyId] at hc
    cases hc
    exact hnodup.1

theorem Path.cross (hP : Travels P) {s : State} {c : ChannelId} {old next : Nat} {rest : List Nat} (h : P s)
    (hp : Path s c (next :: rest)) (hid : (s.channel c).storyId = some old) (kind : LeaveKind) (k o frac : Nat) :
    P (Machine.cross c old kind ⟨next, k, o, frac⟩ s) :=
  hP.crossed s c old kind _ h hid (hp.live next List.mem_cons_self)
    fun e => hp.elsewhere old hid (List.mem_cons.mpr (.inl e.symm))

theorem currentStory_storyId {s : State} {c : ChannelId} {st : Story} (h : s.currentStory c = some st) :
    (s.channel c).storyId = some st.id := by
  obtain ⟨rp, hrp, hst⟩ := Option.bind_eq_some_iff.mp h
  rw [storyId_of_readPoint hrp, State.story?_id hst]

theorem walkForward (hP : Travels P) (c : ChannelId) (frac : Nat) (ahead : List Nat) :
    ∀ (lo target : Nat) {s : State}, P s → Path s c ahead → P (walkForward c frac ahead lo target s) := by
  induction ahead with
  | nil =>
    intro lo target s h hp
    unfold Machine.walkForward
    split
    · exact h
    · rename_i st hst
      have hid (ks : List Nat) : ((Machine.reportLines c st.id ks s).channel c).storyId = some st.id := by
        rw [reportLines_channel]
        exact currentStory_storyId hst
      split
      · exact hP.calm.movedForward (hP.place (hP.reportLines c _ _ h) (hid _)) c
      · exact hP.clampEnd (hP.reportLines c _ _ h) _ (hid _)
  | cons next rest ih =>
    intro lo target s h hp
    unfold Machine.walkForward
    split
    · exact h
    · rename_i st hst
      have hid (ks : List Nat) : ((Machine.reportLines c st.id ks s).channel c).storyId = some st.id := by
        rw [reportLines_channel]
        exact currentStory_storyId hst
      split
      · exact hP.calm.movedForward (hP.place (hP.reportLines c _ _ h) (hid _)) c
      · exact ih _ _ (Path.cross hP (hP.reportLines c _ _ h) (hp.reported st.id _) (hid _) _ _ _ _)
          ((hp.reported st.id _).crossed (hid _) _ _ _ _)

theorem walkBackward (hP : Travels P) (c : ChannelId) (frac : Nat) (behind : List Nat) :
    ∀ (row d : Nat) {s : State}, P s → Path s c behind → P (walkBackward c frac behind row d s) := by
  induction behind with
  | nil =>
    intro row d s h hp
    unfold Machine.walkBackward
    split
    · exact h
    · rename_i st hst
      have hid := currentStory_storyId hst
      split
      · exact hP.calm.movedBackward (hP.place h hid) c
      · exact hP.clampStart h _ hid
  | cons before rest ih =>
    intro row d s h hp
    unfold Machine.walkBackward
    split
    · exact h
    · rename_i st hst
      have hid := currentStory_storyId hst
      split
      · exact hP.calm.movedBackward (hP.place h hid) c
      · dsimp only
        split
        · exact h
        · exact ih _ _ (Path.cross hP h hp hid _ _ _ _) (hp.crossed hid _ _ _ _)

theorem pathAfter (hP : Travels P) {s : State} (h : P s) {c : ChannelId} {id : Nat}
    (hid : (s.channel c).storyId = some id) : Path s c (s.readableAfter id) := by
  have hd := hP.distinct s h
  refine ⟨fun i hi => isLive_of_readableAfter hi, hd.sublist (readableAfter_sublist s id), fun i hi => ?_⟩
  obtain rfl : id = i := Option.some_inj.mp (hid.symm.trans hi)
  exact not_mem_readableAfter hd id

theorem pathBefore (hP : Travels P) {s : State} (h : P s) {c : ChannelId} {id : Nat}
    (hid : (s.channel c).storyId = some id) : Path s c (s.readableBefore id) := by
  have hd := (List.reverse_perm _).nodup_iff.mpr (hP.distinct s h)
  refine ⟨fun i hi => isLive_of_readableBefore hi, hd.sublist (readableBefore_sublist_reverse s id), fun i hi => ?_⟩
  obtain rfl : id = i := Option.some_inj.mp (hid.symm.trans hi)
  exact not_mem_readableBefore s id

theorem jog (hP : Travels P) {s : State} (h : P s) (c : ChannelId) (j : Int) : P (jog c j s) := by
  unfold Machine.jog
  dsimp only
  split
  · rename_i hst
    have hid := currentStory_storyId hst
    split
    · split
      · exact h
      · exact hP.walkForward c _ _ _ _ h (hP.pathAfter h hid)
    · split
      · split
        · exact h
        · exact hP.walkBackward c _ _ _ _ h (hP.pathBefore h hid)
      · exact h
  · exact h

theorem nextPress (hP : Travels P) {s : State} (h : P s) (c : ChannelId) : P (nextPress c s) := by
  unfold Machine.nextPress
  split
  · exact h
  · rename_i rp hrp
    split
    · exact h
    · rename_i hnext
      exact hP.calm.atRest (hP.crossNext h (storyId_of_readPoint hrp) hnext _ _ _ _) c

theorem prevPress (hP : Travels P) {s : State} (h : P s) (c : ChannelId) : P (prevPress c s) := by
  unfold Machine.prevPress
  split
  · exact h
  · rename_i rp hrp
    split
    · exact hP.stays s c _ h rfl (storyId_of_readPoint hrp).symm
    · split
      · exact h
      · rename_i hbefore
        exact hP.calm.atRest (hP.crossBefore h (storyId_of_readPoint hrp) hbefore _ _ _ _) c

theorem moves (hP : Travels P) : Moves P where
  calm := hP.calm
  next _ c h := hP.nextPress h c
  prev _ c h := hP.prevPress h c
  jog _ c j h := hP.jog h c j
  ramp _ c h := hP.rampAndMove h c

theorem spliceNoticeAt (hP : Travels P) {s : State} (h : P s) (c : ChannelId) (id k m added : Nat) :
    P (spliceNoticeAt c id k m added s) := by
  unfold Machine.spliceNoticeAt
  split
  · rename_i rp st hrp hst
    split
    · have hanchor : (anchor rp k m added st.n).story = rp.story := by
        unfold anchor
        split
        · rfl
        · split
          · rfl
          · split
            · rfl
            · split <;> rfl
      have hplaced := hP.place h (rp := anchor rp k m added st.n) (by rw [hanchor]; exact storyId_of_readPoint hrp)
      dsimp only
      split
      · exact hP.calm.recompute (hP.writes hplaced rfl rfl) c
      · exact hplaced
    · exact h
  · exact h

theorem geometryAdjust (hP : Travels P) {s : State} (h : P s) (c : ChannelId) : P (geometryAdjust c s) := by
  unfold Machine.geometryAdjust
  dsimp only
  split
  · rename_i rp st hrp hst
    split
    · split
      · exact hP.place h (currentStory_storyId hst)
      · split
        · exact hP.place h (rp := { rp with o := _, frac := 0 }) (storyId_of_readPoint hrp :)
        · exact h
    · exact h
  · exact h

end Travels

/-! ## One channel's open stories -/

/-- Exactly the story `target` of the list is open for the channel, and it is there (R5, R44). -/
structure OpensFor (l : List Story) (d : ChannelId) (target : Option Nat) : Prop where
  opens : ∀ x ∈ l, x.opens d = true ↔ target = some x.id
  live : ∀ id ∈ target, id ∈ l.map Story.id

theorem Story.setOpen_opens_same (x : Story) (c : ChannelId) (v : Bool) : (x.setOpen c v).opens c = v := by
  cases c <;> rfl

theorem Story.setOpen_opens_other (x : Story) {c d : ChannelId} (h : d ≠ c) (v : Bool) :
    (x.setOpen c v).opens d = x.opens d := by
  cases c <;> cases d
  · exact absurd rfl h
  · rfl
  · rfl
  · exact absurd rfl h

namespace OpensFor

variable {l : List Story} {d : ChannelId} {target : Option Nat}

theorem perm (h : OpensFor l d target) {m : List Story} (hp : m.Perm l) : OpensFor m d target :=
  ⟨fun x hx => h.opens x (hp.mem_iff.mp hx), fun id hid => (hp.map Story.id).mem_iff.mpr (h.live id hid)⟩

/-- A change of the records that keeps IDs and open sets. -/
theorem map (h : OpensFor l d target) {f : Story → Story}
    (hf : ∀ x ∈ l, (f x).id = x.id ∧ (f x).opens d = x.opens d) : OpensFor (l.map f) d target := by
  refine ⟨fun y hy => ?_, fun id hid => ?_⟩
  · obtain ⟨x, hx, rfl⟩ := List.mem_map.mp hy
    rw [(hf x hx).1, (hf x hx).2]
    exact h.opens x hx
  · obtain ⟨x, hx, hxid⟩ := List.mem_map.mp (h.live id hid)
    exact List.mem_map.mpr ⟨f x, List.mem_map_of_mem hx, (hf x hx).1.trans hxid⟩

theorem remove (h : OpensFor l d target) {id : Nat} (hne : target ≠ some id) : OpensFor (removeStory id l) d target := by
  refine ⟨fun x hx => h.opens x (mem_of_mem_removeStory hx), fun i hi => ?_⟩
  obtain ⟨x, hx, hxid⟩ := List.mem_map.mp (h.live i hi)
  refine List.mem_map.mpr ⟨x, List.mem_filter.mpr ⟨hx, ?_⟩, hxid⟩
  simp only [bne_iff_ne, ne_eq]
  exact fun e => hne (by rw [← e, hxid]; exact hi)

theorem insert (h : OpensFor l d target) {st : Story} (hst : st.opens d = false) (hnew : st.id ∉ l.map Story.id)
    (anchor : Nat) : OpensFor (insertAfter anchor st l) d target := by
  refine perm (l := st :: l) ⟨fun x hx => ?_, fun id hid => List.mem_cons_of_mem _ (h.live id hid)⟩
    (insertAfter_perm anchor st l)
  rcases List.mem_cons.mp hx with rfl | hx
  · rw [hst]
    exact ⟨fun hn => absurd hn Bool.false_ne_true, fun e => absurd (h.live _ e) hnew⟩
  · exact h.opens x hx

end OpensFor

/-- A story that no channel is in is the story of no read point. -/
theorem target_ne_of_openEmpty {l : List Story} {d : ChannelId} {target : Option Nat} (h : OpensFor l d target)
    {st : Story} (hst : st ∈ l) (ho : st.opens d = false) : target ≠ some st.id := by
  intro e
  have := (h.opens st hst).mpr e
  rw [ho] at this
  exact absurd this Bool.false_ne_true

theorem opens_of_openEmpty {st : Story} (h : st.openEmpty = true) (d : ChannelId) : st.opens d = false := by
  simp only [Story.openEmpty, Bool.and_eq_true, Bool.not_eq_true'] at h
  cases d
  · exact h.1
  · exact h.2

section

variable {s : State} {c : ChannelId} {id : Nat} {kind : LeaveKind}

/-- A leave closes the story for the channel that leaves it. -/
theorem opensFor_leave_same (hs : OpensFor s.stories c (some id)) : OpensFor (leave c id kind s).stories c none := by
  have hclosed {x : Story} (hx : x ∈ s.stories) (hne : x.id ≠ id) : x.opens c = false := by
    rw [Bool.eq_false_iff]
    exact fun ho => hne (Option.some_inj.mp ((hs.opens x hx).mp ho)).symm
  refine ⟨fun x hx => ?_, fun _ h => nomatch h⟩
  have hx' : x.opens c = false := by
    rcases leave_stories c id kind s with ⟨h, e⟩ | ⟨st, -, -, e⟩ | ⟨st, a, -, -, e⟩ <;> rw [e] at hx
    · exact hclosed hx (not_live_iff.mp h x hx)
    · exact hclosed (mem_of_mem_removeStory hx) (ne_of_mem_removeStory hx)
    · obtain ⟨y, hy, rfl⟩ := List.mem_map.mp hx
      split
      · cases c <;> rfl
      · rename_i hne
        exact hclosed hy hne
  simp [hx']

/-- A leave keeps the stories of the other channel as they were to it. -/
theorem opensFor_leave_other {d : ChannelId} (hd : d ≠ c) {target : Option Nat} (hs : OpensFor s.stories d target) :
    OpensFor (leave c id kind s).stories d target := by
  rcases leave_stories c id kind s with ⟨-, e⟩ | ⟨st, h, ho, e⟩ | ⟨st, a, -, -, e⟩ <;> rw [e]
  · exact hs
  · have hopen : st.opens d = false := by
      rw [← Story.setOpen_opens_other st hd false]
      exact opens_of_openEmpty ho d
    exact hs.remove (State.story?_id h ▸ target_ne_of_openEmpty hs (State.story?_mem h) hopen)
  · refine hs.map fun x hx => ?_
    split
    · refine ⟨Story.setOpen_id x c false, ?_⟩
      rw [← Story.setOpen_opens_other x hd false]
      cases d <;> rfl
    · exact ⟨rfl, rfl⟩

/-- An entry opens the story for the channel that enters it. -/
theorem opensFor_enter_same (hs : OpensFor s.stories c none) (hid : s.isLive id = true) :
    OpensFor (enter c id s).stories c (some id) := by
  rw [enter, State.modChannel_stories]
  refine ⟨fun y hy => ?_, fun i hi => ?_⟩
  · obtain ⟨x, hx, rfl⟩ := List.mem_map.mp hy
    split
    · rename_i he
      rw [Story.setOpen_opens_same, Story.setOpen_id, he]
      exact ⟨fun _ => rfl, fun _ => rfl⟩
    · rename_i hne
      rw [hs.opens x hx]
      simpa using Ne.symm hne
  · cases hi
    rw [modStory_ids_of_id s fun x hx => by simpa using hx]
    exact State.isLive_iff_mem.mp hid

theorem opensFor_enter_other {d : ChannelId} (hd : d ≠ c) {target : Option Nat} (hs : OpensFor s.stories d target) :
    OpensFor (enter c id s).stories d target := by
  rw [enter, State.modChannel_stories]
  refine hs.map fun x _ => ?_
  split
  · exact ⟨Story.setOpen_id x c true, Story.setOpen_opens_other x hd true⟩
  · exact ⟨rfl, rfl⟩

end

/-! ## All of them -/

/-- Of a channel: its open stories, and that it has a read point exactly when it is loaded (R5, R44). -/
def OpenFor (s : State) (d : ChannelId) : Prop :=
  OpensFor s.stories d (s.channel d).storyId ∧ ((s.channel d).state = .unloaded ↔ (s.channel d).readPoint = none)

theorem openSetsExact_iff (s : State) : OpenSetsExact s ↔ ∀ d, OpenFor s d := by
  constructor
  · intro h d
    obtain ⟨h1, h2, h3⟩ := h d (by cases d <;> decide)
    exact ⟨⟨h1, fun id hid => State.isLive_iff_mem.mp (h2 id hid)⟩, h3⟩
  · intro h d _
    obtain ⟨⟨h1, h2⟩, h3⟩ := h d
    exact ⟨h1, fun id hid => State.isLive_iff_mem.mpr (h2 id hid), h3⟩

theorem storyId_eq_none_iff {ch : Channel} : ch.storyId = none ↔ ch.readPoint = none := by
  simp [Channel.storyId]

/-- A channel is loaded exactly when its read point has a story. -/
theorem OpenFor.of_storyId {s t : State} {d : ChannelId} (hs : OpenFor s d)
    (ho : OpensFor t.stories d (t.channel d).storyId) (hstate : (t.channel d).state = (s.channel d).state)
    (hid : (t.channel d).storyId = none ↔ (s.channel d).storyId = none) : OpenFor t d := by
  refine ⟨ho, ?_⟩
  rw [hstate, ← storyId_eq_none_iff, hid, storyId_eq_none_iff]
  exact hs.2

/-- The state `t` differs from `s` in nothing that the open sets depend on, but for the stories. -/
def SameLoads (s t : State) : Prop :=
  ∀ d, (t.channel d).state = (s.channel d).state ∧ (t.channel d).storyId = (s.channel d).storyId

theorem OpenSetsExact.of_stories {s t : State} (hs : OpenSetsExact s) (hc : SameLoads s t)
    (h : ∀ d target, OpensFor s.stories d target → OpensFor t.stories d target) : OpenSetsExact t := by
  rw [openSetsExact_iff] at hs ⊢
  intro d
  obtain ⟨h1, h2⟩ := hc d
  refine (hs d).of_storyId ?_ h1 (by rw [h2])
  rw [h2]
  exact h d _ (hs d).1

theorem sameLoads_of_channels {s t : State} (h : ∀ d, t.channel d = s.channel d) : SameLoads s t :=
  fun d => by rw [h]; exact ⟨rfl, rfl⟩

theorem OpenSetsExact.same {s t : State} (hs : OpenSetsExact s) (hc : SameLoads s t) (hst : t.stories = s.stories) :
    OpenSetsExact t := hs.of_stories hc fun _ _ h => hst ▸ h

theorem OpenSetsExact.modStory {s : State} (hs : OpenSetsExact s) (id : Nat) {f : Story → Story}
    (hf : ∀ x ∈ s.stories, x.id = id → (f x).id = x.id ∧ ∀ d, (f x).opens d = x.opens d) :
    OpenSetsExact (s.modStory id f) := by
  refine hs.of_stories (sameLoads_of_channels fun d => State.modStory_channel s id f d) fun d target h => ?_
  refine h.map fun x hx => ?_
  split
  · rename_i hid
    exact ⟨(hf x hx hid).1, (hf x hx hid).2 d⟩
  · exact ⟨rfl, rfl⟩

theorem OpenSetsExact.retire {s : State} (hs : OpenSetsExact s) {id : Nat} {st : Story} (h : s.story? id = some st)
    (ho : st.openEmpty = true) : OpenSetsExact (retire id s) := by
  refine hs.of_stories (sameLoads_of_channels fun d => ?_) fun d target hd => ?_
  · rw [retire_frame]
    cases d <;> rfl
  · rw [(retire_live h).1]
    exact hd.remove (State.story?_id h ▸ target_ne_of_openEmpty hd (State.story?_mem h) (opens_of_openEmpty ho d))

theorem OpenSetsExact.kill {s : State} (hs : OpenSetsExact s) (id : Nat) : OpenSetsExact (kill id s).1 := by
  cases h : s.story? id with
  | none => simpa [Machine.kill, h] using hs
  | some st =>
    rcases kill_cases h with ⟨ho, e⟩ | ⟨-, -, e⟩ | ⟨-, -, e⟩ <;> rw [e]
    · exact hs.retire h ho
    · exact hs
    · have hk := hs.modStory id (f := fun x => { x with air := .doomed }) fun _ _ _ => ⟨rfl, fun d => by cases d <;> rfl⟩
      exact hk.same (fun d => by cases d <;> exact ⟨rfl, rfl⟩) rfl

theorem OpenSetsExact.setChannel {s : State} (hs : OpenSetsExact s) (c : ChannelId) {ch : Channel}
    (hstate : ch.state = .unloaded ↔ (s.channel c).state = .unloaded) (hid : ch.storyId = (s.channel c).storyId) :
    OpenSetsExact (s.setChannel c ch) := by
  rw [openSetsExact_iff] at hs ⊢
  intro d
  unfold OpenFor
  rw [State.setChannel_stories]
  by_cases hd : d = c
  · subst hd
    rw [State.setChannel_same, hid, hstate, ← storyId_eq_none_iff, hid, storyId_eq_none_iff]
    exact hs d
  · rw [State.setChannel_other s hd]
    exact hs d

theorem OpenSetsExact.crossed {s : State} (hs : OpenSetsExact s) {c : ChannelId} {old : Nat} {rp : ReadPoint}
    (hid : (s.channel c).storyId = some old) (hlive : s.isLive rp.story = true) (hne : rp.story ≠ old)
    (kind : LeaveKind) : OpenSetsExact (cross c old kind rp s) := by
  rw [openSetsExact_iff] at hs ⊢
  intro d
  by_cases hd : d = c
  · subst hd
    have hleft : OpensFor (leave d old kind (s.place d rp)).stories d none := by
      refine opensFor_leave_same ?_
      rw [State.place_stories, ← hid]
      exact (hs d).1
    have hthere : (leave d old kind (s.place d rp)).isLive rp.story = true := by
      rw [isLive_leave hne, State.place_isLive, hlive]
    have hstory := Travels.cross_storyId d old kind rp s
    refine (hs d).of_storyId ?_ ?_ ?_
    · rw [hstory]
      exact opensFor_enter_same hleft hthere
    · simp [cross, enter]
    · rw [hstory, hid]
      simp
  · have hch : (cross c old kind rp s).channel d = s.channel d := by
      rw [cross, enter, State.modChannel_other _ hd, State.modStory_channel, leave_channel, State.place_other s hd]
    refine (hs d).of_storyId ?_ (by rw [hch]) (by rw [hch])
    rw [hch]
    refine opensFor_enter_other hd (opensFor_leave_other hd ?_)
    rw [State.place_stories]
    exact (hs d).1

end Sys2Proof.Machine
end

section
/-! PROOF. Every kind of event keeps the open sets, with the geometry and the operations in flight (O55). -/

namespace Sys2Proof.Machine

theorem storiesDistinct_books : Books StoriesDistinct where
  same s t h hs := hs.of_perm (h.1 ▸ .refl _)
  empty s h _ _ := by simp [StoriesDistinct, h]
  cleared s _ := ⟨List.nodup_nil, Nat.zero_le _, List.forall_mem_nil _⟩
  left s c id kind hs := leave_keeps c id kind hs (hs.modStory fun x hx => by simpa using hx)
    (fun _ hu => hu.retire id) (fun _ hu => hu.kill id)
  killed s id hs := hs.kill id
  opened s c id hs := hs.modStory fun x hx => by rwa [Story.setOpen_id]
  fired s id k _ _ hs _ _ _ := hs.modStory fun _ hx => hx
  checked s id v hs := hs.modStory fun _ hx => hx
  pended s g hs := hs.map (fun st => { st with pendingG := some (g st.lines) }) (fun _ => rfl) rfl
  measured s hs := hs.map (fun st => { st with g := st.pendingG.getD st.g, pendingG := none }) (fun _ => rfl) rfl
  inserted s id anchor slugBand hs h0 hid hnew hroom := hs.insert h0 hid hnew hroom rfl
  moved s id anchor st hs hst := hs.of_perm (perm_move hs.1 hst anchor)
  floated s id st hs _ _ _ := hs.modStory (f := fun x => { x with floated := true }) fun _ hx => hx
  restored s id st hs _ _ _ := hs.modStory (f := fun x => { x with floated := false }) fun _ hx => hx
  written s id st st' hs hst _ hw := hs.modStory (f := fun _ => st') fun _ _ =>
    (congrArg Story.id hw.1).trans (show st.id = id from State.story?_id hst)
  locked s id l hs := hs.modStory fun _ hx => hx
  spliced s id k m st ls hs h := hs.modStory (f := fun _ => st.spliced s.heights k m ls) fun _ _ =>
    show st.id = id from State.story?_id h.live
  rearmed s id hs := hs.modStory fun _ hx => hx

theorem sameBooks_place (s : State) (c : ChannelId) (rp : ReadPoint) : SameBooks s (s.place c rp) :=
  sameBooks_setChannel s c _

theorem openSets_travels : Travels (fun s => StoriesDistinct s ∧ OpenSetsExact s) where
  distinct s h := h.1.1
  station s p f h := ⟨storiesDistinct_books.same s _ ⟨rfl, rfl, rfl⟩ h.1,
    h.2.same (fun d => by cases d <;> exact ⟨rfl, rfl⟩) rfl⟩
  marks s c h := ⟨storiesDistinct_books.soft.marks s c h.1, h.2.same (fun d => by cases d <;> exact ⟨rfl, rfl⟩) rfl⟩
  arbiter s c r h := ⟨storiesDistinct_books.soft.arbiter s c r h.1,
    h.2.same (fun d => by cases c <;> cases d <;> exact ⟨rfl, rfl⟩) (State.setArbiter_stories s c r)⟩
  stays s c ch h hstate hid := ⟨storiesDistinct_books.same s _ (sameBooks_setChannel s c ch) h.1,
    h.2.setChannel c (by rw [hstate]) hid⟩
  crossed s c old kind rp h hid hlive hne := ⟨storiesDistinct_books.soft.cross h.1 c old kind rp, h.2.crossed hid hlive hne kind⟩
  reported s c id k h := by
    refine ⟨storiesDistinct_books.reported s c id k h.1, ?_⟩
    rcases reportLine_cases c id k s with e | ⟨_, l, o, _, _, _, e⟩ <;> rw [e]
    · exact h.2
    · have hm := h.2.modStory id (f := fun st => { st with
        lines := st.lines.modify (k - 1) (fun l => { l with fired := true }) }) fun _ _ _ => ⟨rfl, fun d => by cases d <;> rfl⟩
      exact hm.same (fun d => by cases d <;> exact ⟨rfl, rfl⟩) rfl

/-! ## Loads and unloads -/

/-- A neutral leave retires no story but a DOOMED one. -/
theorem isLive_leave_neutral {s : State} {id : Nat} {st : Story} (h : s.story? id = some st) (hair : st.air ≠ .doomed)
    (c : ChannelId) (old : Nat) : (leave c old .neutral s).isLive id = true := by
  have hlive : s.isLive id = true := by simp [State.isLive, h]
  by_cases hid : id = old
  · subst hid
    have hneutral : airAfterLeave .neutral (decide (s.cues.lead = c)) st.air = st.air := rfl
    unfold leave
    rw [h]
    simp only [hneutral]
    rw [if_neg (by cases c <;> exact hair)]
    simp only [reduceCtorEq, false_and, if_false]
    rw [State.isLive_iff_mem, modStory_ids_of_id s fun x hx => by cases c <;> exact hx]
    exact State.isLive_iff_mem.mp hlive
  · rw [isLive_leave hid]
    exact hlive

/-- The part after the neutral leave of the story a channel is in, if it is in one. -/
def State.vacated (c : ChannelId) (s : State) : State :=
  match (s.channel c).readPoint with
  | some old => leave c old.story .neutral s
  | none => s

theorem loadState_eq (c : ChannelId) (rp : ReadPoint) (s : State) :
    loadState c rp s = (atRest c (enter c rp.story ((s.vacated c).place c rp))).modChannel c
      (fun ch => { ch with state := if ch.state = .unloaded then .parked else ch.state }) := rfl

theorem vacated_channel (c d : ChannelId) (s : State) : (s.vacated c).channel d = s.channel d := by
  unfold State.vacated
  split
  · exact leave_channel c _ _ s d
  · rfl

theorem isLive_vacated {s : State} {id : Nat} {st : Story} (h : s.story? id = some st) (hair : st.air ≠ .doomed)
    (c : ChannelId) : (s.vacated c).isLive id = true := by
  unfold State.vacated
  split
  · exact isLive_leave_neutral h hair c _
  · simp [State.isLive, h]

theorem opensFor_vacated_same {s : State} {c : ChannelId} (hs : OpensFor s.stories c (s.channel c).storyId) :
    OpensFor (s.vacated c).stories c none := by
  rw [Channel.storyId] at hs
  unfold State.vacated
  split <;> rename_i hrp <;> rw [hrp] at hs
  · exact opensFor_leave_same hs
  · exact hs

theorem opensFor_vacated_other {s : State} {c d : ChannelId} (hd : d ≠ c) {target : Option Nat}
    (hs : OpensFor s.stories d target) : OpensFor (s.vacated c).stories d target := by
  unfold State.vacated
  split
  · exact opensFor_leave_other hd hs
  · exact hs

theorem loadState_stories (c : ChannelId) (rp : ReadPoint) (s : State) :
    (loadState c rp s).stories = (enter c rp.story ((s.vacated c).place c rp)).stories := by
  rw [loadState_eq, State.modChannel_stories, atRest, State.modChannel_stories]

theorem loadState_channel_same (c : ChannelId) (rp : ReadPoint) (s : State) :
    (loadState c rp s).channel c =
      { s.channel c with
        state := if (s.channel c).state = .unloaded then .parked else (s.channel c).state
        readPoint := some rp, speed := 0, target := 0, endFlag := false, startFlag := false, storyChanged := true } := by
  simp [loadState_eq, atRest, enter, vacated_channel]

theorem loadState_channel_other {c d : ChannelId} (hd : d ≠ c) (rp : ReadPoint) (s : State) :
    (loadState c rp s).channel d = s.channel d := by
  rw [loadState_eq, State.modChannel_other _ hd, atRest, State.modChannel_other _ hd, enter,
    State.modChannel_other _ hd, State.modStory_channel, State.place_other _ hd, vacated_channel]

theorem OpenSetsExact.loaded {s : State} (hs : OpenSetsExact s) {c : ChannelId} {rp : ReadPoint} {st : Story}
    (hst : s.story? rp.story = some st) (hair : st.air ≠ .doomed) : OpenSetsExact (loadState c rp s) := by
  rw [openSetsExact_iff] at hs ⊢
  intro d
  by_cases hd : d = c
  · subst hd
    unfold OpenFor
    rw [loadState_stories, loadState_channel_same]
    refine ⟨opensFor_enter_same (s := (s.vacated d).place d rp) ?_ ?_, ?_⟩
    · rw [State.place_stories]
      exact opensFor_vacated_same (hs d).1
    · rw [State.place_isLive]
      exact isLive_vacated hst hair d
    · split <;> simp_all
  · unfold OpenFor
    rw [loadState_stories, loadState_channel_other hd]
    refine ⟨opensFor_enter_other (s := (s.vacated c).place c rp) hd ?_, (hs d).2⟩
    rw [State.place_stories]
    exact opensFor_vacated_other hd (hs d).1

theorem OpenSetsExact.unloaded {s : State} (hs : OpenSetsExact s) (c : ChannelId) : OpenSetsExact (unload c s) := by
  rw [openSetsExact_iff] at hs ⊢
  intro d
  unfold unload
  dsimp only
  split
  · exact hs d
  · have hc := (hs c).1
    rw [Channel.storyId] at hc
    by_cases hd : d = c
    · subst hd
      refine ⟨?_, by simp⟩
      rw [State.modChannel_same, State.modChannel_stories]
      split <;> rename_i hrp <;> rw [hrp] at hc
      · exact opensFor_leave_same hc
      · exact hc
    · unfold OpenFor
      rw [State.modChannel_other _ hd, State.modChannel_stories]
      split
      · rw [leave_channel]
        exact ⟨opensFor_leave_other hd (hs d).1, (hs d).2⟩
      · exact hs d

/-! ## Commands -/

theorem OpenSetsExact.effect {s t : State} (hs : StoriesDistinct s ∧ OpenSetsExact s) (he : Effect s t) : OpenSetsExact t := by
  obtain ⟨hb, ho⟩ := id hs
  have same {u : State} (hc : ∀ d, u.channel d = s.channel d) (hst : u.stories = s.stories) : OpenSetsExact u :=
    ho.same (sameLoads_of_channels hc) hst
  have hcalm := openSets_travels.calm
  have keeps {f : Story → Story} (id : Nat) (hf : ∀ x, (f x).id = x.id ∧ (f x).openA = x.openA ∧ (f x).openB = x.openB) :
      OpenSetsExact (s.modStory id f) :=
    ho.modStory id fun x _ _ => ⟨(hf x).1, fun | .a => (hf x).2.1 | .b => (hf x).2.2⟩
  cases he with
  | nothing => exact ho
  | inserted id anchor h0 hid hnew hroom =>
    refine (hcalm.orderNotice ⟨storiesDistinct_books.inserted s id anchor _ hb h0 hid hnew hroom, ?_⟩).2
    refine ho.of_stories (sameLoads_of_channels fun d => by cases d <;> rfl) fun d target h => ?_
    refine h.insert (by cases d <;> rfl) (fun hm => ?_) anchor
    exact absurd (State.isLive_iff_mem.mpr hm) (Bool.eq_false_iff.mp hnew)
  | moved id anchor st hst =>
    refine (hcalm.orderNotice ⟨storiesDistinct_books.moved s id anchor st hb hst, ?_⟩).2
    exact ho.of_stories (sameLoads_of_channels fun d => by cases d <;> rfl) fun d target h =>
      h.perm (perm_move hb.1 hst anchor)
  | floated id st hst hair hf =>
    exact (keeps (f := fun x => { x with floated := true }) id fun _ => ⟨rfl, rfl, rfl⟩).same
      (sameLoads_of_channels fun d => by cases d <;> rfl) rfl
  | restored id st hst hair hf =>
    refine (hcalm.orderNotice ⟨storiesDistinct_books.restored s id st hb hst hair hf, ?_⟩).2
    exact (keeps (f := fun x => { x with floated := false }) id fun _ => ⟨rfl, rfl, rfl⟩).same
      (sameLoads_of_channels fun d => by cases d <;> rfl) rfl
  | killed id => exact ho.kill id
  | written id st st' hst hair hw =>
    refine OpenSetsExact.same (s := s.modStory id (fun _ => st')) ?_ (sameLoads_of_channels fun d => by cases d <;> rfl) rfl
    refine ho.modStory id fun x hx hid => ?_
    obtain rfl := eq_of_story? hb hst hx hid
    rw [hw.1]
    exact ⟨rfl, fun d => by cases d <;> rfl⟩
  | locked id l => exact keeps id fun _ => ⟨rfl, rfl, rfl⟩
  | spliced id k m st ls h =>
    refine (openSets_travels.spliceNoticeAt (openSets_travels.spliceNoticeAt
      ⟨storiesDistinct_books.spliced s id k m st ls hb h, ?_⟩ .a id k m _) .b id k m _).2
    refine OpenSetsExact.same (s := s.modStory id (fun _ => st.spliced s.heights k m ls)) ?_
      (sameLoads_of_channels fun d => by cases d <;> rfl) rfl
    refine ho.modStory id fun x hx hid => ?_
    obtain rfl := eq_of_story? hb h.live hx hid
    exact ⟨rfl, fun d => by cases d <;> rfl⟩
  | rearmed id => exact keeps id fun _ => ⟨rfl, rfl, rfl⟩
  | loaded c id k st hst hr => 
    refine ho.loaded (rp := ⟨id, min k st.n, 0, 0⟩) hst fun hair => ?_
    simp [Story.readable, hair] at hr
  | ran c h =>
    refine OpenSetsExact.setChannel (s := s.modChannel c Channel.run) (ho.setChannel c ?_ rfl) c Iff.rfl rfl
    simp [Channel.run, h]
  | parked c h =>
    refine ho.setChannel c ?_ rfl
    simp [h]
  | unloaded c => exact ho.unloaded c
  | tuned c f curve =>
    exact OpenSetsExact.setChannel (s := s.modChannel c _) (ho.setChannel c Iff.rfl rfl) c Iff.rfl rfl
  | channelRead c =>
    unfold statusChannel
    refine ho.same (fun d => ?_) ?_
    · split <;> cases c <;> cases d <;> exact ⟨rfl, rfl⟩
    · split <;> cases c <;> rfl
  | stationSet p f lapse hand =>
    have hset (l h : Nat) : OpenSetsExact { s with lapseTime := l, handOff := h } :=
      same (fun d => by cases d <;> rfl) rfl
    split
    · exact (hcalm.reconfigure ⟨by exact hb, hset _ _⟩ p f).2
    · exact hset _ _
  | stationRead p => exact same (fun d => by cases d <;> rfl) rfl
  | attached h c => exact same (fun d => by cases d <;> rfl) rfl
  | detached h => exact same (fun d => by cases d <;> rfl) rfl
  | headRead h => exact same (fun d => by cases d <;> rfl) rfl
  | clockSet v => exact same (fun d => by cases d <;> rfl) rfl
  | clockHeld =>
    unfold cmdClockHold
    split <;> exact same (fun d => by cases d <;> rfl) rfl
  | clockResumed =>
    unfold cmdClockResume
    split <;> exact same (fun d => by cases d <;> rfl) rfl
  | timingRead => exact same (fun d => by cases d <;> rfl) rfl
  | lead c => exact same (fun d => by cases d <;> rfl) rfl
  | output o a width level => exact same (fun d => by cases d <;> rfl) rfl

theorem OpenSetsExact.link {s : State} (hs : OpenSetsExact s) (l : Link) : OpenSetsExact { s with link := l } :=
  hs.same (fun d => by cases d <;> exact ⟨rfl, rfl⟩) rfl

theorem OpenSetsExact.pended {s : State} (hs : OpenSetsExact s) (g : List Line → Nat) :
    OpenSetsExact { s with stories := s.stories.map (fun st => { st with pendingG := some (g st.lines) }) } :=
  hs.of_stories (fun d => by cases d <;> exact ⟨rfl, rfl⟩) fun d target h =>
    h.map (f := fun st => { st with pendingG := some (g st.lines) }) fun x _ => ⟨rfl, by cases d <;> rfl⟩

theorem OpenSetsExact.measured {s : State} (hs : OpenSetsExact s) (h : Heights) : OpenSetsExact (measuredState h s) :=
  hs.of_stories (fun d => by cases d <;> exact ⟨rfl, rfl⟩) fun d target h =>
    h.map (f := fun st => { st with g := st.pendingG.getD st.g, pendingG := none }) fun x _ => ⟨rfl, by cases d <;> rfl⟩

theorem OpenSetsExact.concluded {s t : State} (hs : StoriesDistinct s ∧ OpenSetsExact s) (hc : Concluded s t) :
    OpenSetsExact t := by
  cases hc with
  | answered u status code payload he => exact (OpenSetsExact.effect hs he).link _
  | checking id st hst =>
    exact (hs.2.modStory id (f := fun x => { x with checkInFlight := true })
      fun _ _ _ => ⟨rfl, fun d => by cases d <;> rfl⟩).link _
  | clearing n u ht =>
    have hclear : OpenSetsExact { s with clearInProgress := true } :=
      hs.2.same (fun d => by cases d <;> exact ⟨rfl, rfl⟩) rfl
    rw [ht]
    exact ((hclear.unloaded .a).unloaded .b).link _
  | recomputing h ha hb => exact (hs.2.pended (geometryOf h.clamped)).same (fun d => by cases d <;> exact ⟨rfl, rfl⟩) rfl

/-! ## Completions -/

theorem OpenSetsExact.finishCheck {s : State} (hs : OpenSetsExact s) : OpenSetsExact (finishCheck s) := by
  unfold Machine.finishCheck
  split
  · rename_i id _
    unfold completeCheck
    split
    · exact hs.link _
    · exact (hs.modStory id (f := fun x => { x with checkInFlight := false })
        fun _ _ _ => ⟨rfl, fun d => by cases d <;> rfl⟩).link _
  · exact hs

/-- While a clear is in flight no channel has a read point, so its completion finds every open set empty. -/
theorem OpenSetsExact.finishClear {s : State} (ho : OperationsExact s) (hs : OpenSetsExact s) :
    OpenSetsExact (finishClear s) := by
  unfold Machine.finishClear
  split
  · rename_i n hx
    have hclear : s.clearInProgress = true := by rw [ho.1, hx]; rfl
    obtain ⟨ha, hb⟩ := ho.2.1 hclear
    rw [openSetsExact_iff] at hs ⊢
    intro d
    have hunloaded : (s.channel d).state = .unloaded := by cases d <;> assumption
    have hnone := (hs d).2.mp hunloaded
    have hstate : ((completeClear s).respond .ok 0x21 (.storyCount n)).channel d = { s.channel d with mark := none } := by
      cases d <;> rfl
    unfold OpenFor
    rw [hstate]
    refine ⟨?_, (hs d).2⟩
    rw [show Channel.storyId { s.channel d with mark := none } = none by simp [Channel.storyId, hnone]]
    exact ⟨List.forall_mem_nil _, fun _ h => nomatch h⟩
  · exact hs

theorem OpenSetsExact.finishGeometry {s : State} (hs : StoriesDistinct s ∧ OpenSetsExact s) :
    OpenSetsExact (finishGeometry s) := by
  unfold Machine.finishGeometry
  split
  · cases hp : s.pendingHeights with
    | none => simpa [completeGeometry, hp] using hs.2
    | some h =>
      rw [completeGeometry_eq hp]
      have hm : StoriesDistinct (measuredState h s) ∧ OpenSetsExact (measuredState h s) :=
        ⟨storiesDistinct_books.of_same (storiesDistinct_books.measured s hs.1) ⟨rfl, rfl, rfl⟩, hs.2.measured h⟩
      have hadj := openSets_travels.geometryAdjust (openSets_travels.geometryAdjust hm .a) .b
      exact hadj.2.same (fun d => by cases d <;> exact ⟨rfl, rfl⟩) rfl
  · exact hs.2

theorem openSets_headless : Headless OpenSetsExact :=
  fun _ _ hs => hs.same (fun d => by cases d <;> exact ⟨rfl, rfl⟩) rfl

theorem distinctOpen_headless : Headless (fun s => StoriesDistinct s ∧ OpenSetsExact s) :=
  fun s v hs => ⟨storiesDistinct_books.headless s v hs.1, openSets_headless s v hs.2⟩

theorem openSetsExact_kept : Kept (fun s => OperationsExact s ∧ StoriesDistinct s) OpenSetsExact where
  unqueue s q hs := hs.same (fun d => by cases d <;> exact ⟨rfl, rfl⟩) rfl
  tick s _ hs := hs.same (fun d => by cases d <;> exact ⟨rfl, rfl⟩) rfl
  reset s := by
    rw [openSetsExact_iff]
    intro d
    cases d <;> exact ⟨⟨List.forall_mem_nil _, fun _ h => nomatch h⟩, ⟨fun _ => rfl, fun _ => rfl⟩⟩
  startUp s rate _ hs := by
    unfold startUp
    split
    · exact hs
    · exact hs.same (fun d => by cases d <;> exact ⟨rfl, rfl⟩) rfl
  fed s c _ hs := hs.link _
  hunting s _ hs := hs.link _
  slot s code _ hs _ := hs.link _
  misfit s status code _ hs hi := hs.link _
  command cmd s hf hq hs hi := OpenSetsExact.concluded ⟨hq.2, hs⟩ (concluded_take hf s)
  sent s _ hs := by
    unfold gatewaySent
    split
    · split
      · exact hs.link _
      · split <;> exact hs.link _
    · exact hs
  checked s _ hs := hs.finishCheck
  cleared s hq hs := OpenSetsExact.finishClear hq.1 hs
  recomputed s hq hs := OpenSetsExact.finishGeometry ⟨hq.2, hs⟩
  channelStep s c hq hs := (openSets_travels.moves.channelStep distinctOpen_headless ⟨hq.2, hs⟩ c).2
  second s _ hs := by
    unfold countSecond
    split
    · exact hs
    · exact hs.same (fun d => by cases d <;> exact ⟨rfl, rfl⟩) rfl
  pulse s o _ hs := hs.same (fun d => by cases d <;> exact ⟨rfl, rfl⟩) rfl
  stationChar s p c hq hs := (openSets_travels.moves.stationChar ⟨hq.2, hs⟩ p c).2
  stationGap s p hq hs := (openSets_travels.moves.stationGap ⟨hq.2, hs⟩ p).2
  lapse s p hq hs := (openSets_travels.calm.lapse ⟨hq.2, hs⟩ p).2
  answerSent s p hq hs := (openSets_travels.moves.answerSent ⟨hq.2, hs⟩ p).2
  headChar s hd c _ hs := openSets_headless.headChar hs hd c
  headGap s hd _ hs := openSets_headless.headGap hs hd
  headSent s hd _ hs := openSets_headless.headSent hs hd

/-- The operations in flight, the stories and the open sets together. -/
theorem openSets_kept : Kept Always (fun s => OperationsExact s ∧ StoriesDistinct s ∧ OpenSetsExact s) :=
  operationsExact_kept.and ((storiesDistinct_books.kept.mono fun _ _ => trivial).and
    (openSetsExact_kept.mono fun _ h => ⟨h.1.2, h.2⟩))

/-- Sections 1.3, 1.4, 2.3, 2.4 and 3.1.
Settles O55. -/
theorem everyStepKeepsOpenSetsAndGeometry : Obligations.EveryStepKeepsOpenSetsAndGeometry := by
  intro s t hst
  refine ⟨fun ⟨hd, ho, hdoomed, hops⟩ => ?_, fun ⟨hgeo, hops⟩ => ?_⟩
  · obtain ⟨hops', hd', ho'⟩ := openSets_kept.step hst ⟨hops, hd, ho⟩
    exact ⟨hd', ho', (doomedHeld_books.kept.step hst ⟨hd, hdoomed⟩).2, hops'⟩
  · obtain ⟨hops', hgeo'⟩ := geometrySound_kept.step hst ⟨hops, hgeo⟩
    exact ⟨hgeo', hops'⟩

end Sys2Proof.Machine
end

section
/-! PROOF. The commands of the rundown store (R10, R12 to R16): NEW, MOVE, FLOAT, RESTORE, KILL, PROPS, LOCK, UNLOCK. -/

namespace Sys2Proof.Machine

/-! ## A story that is live or not -/

theorem isLive_of_story? {s : State} {id : Nat} {st : Story} (h : s.story? id = some st) : s.isLive id = true :=
  State.isLive_iff.mpr ⟨st, h⟩

theorem story?_of_isLive {s : State} {id : Nat} (h : s.isLive id = true) : ∃ st, s.story? id = some st :=
  State.isLive_iff.mp h

/-- The anchor test of STORY NEW and STORY MOVE fails exactly on an anchor that is not there (R14, R15). -/
theorem anchor_found {s : State} {anchor : Nat} (h : anchor = 0 ∨ s.isLive anchor = true) :
    ¬(anchor ≠ 0 ∧ s.isLive anchor = false) := by
  rintro ⟨h0, hgone⟩
  rcases h with rfl | h
  · exact h0 rfl
  · rw [h] at hgone
    exact nomatch hgone

/-! ## The order-change notice (R59) -/

theorem OrderNoticed.congr {s t s' t' : State} {c : ChannelId} (h : OrderNoticed s t c)
    (hs : s'.channel c = s.channel c) (ht : t'.channel c = t.channel c) (hstories : t'.stories = t.stories)
    (htarget : targetFor t' c = targetFor t c) : OrderNoticed s' t' c := by
  have ha (i : Nat) : t'.readableAfter i = t.readableAfter i := by simp only [State.readableAfter, hstories]
  have hb (i : Nat) : t'.readableBefore i = t.readableBefore i := by simp only [State.readableBefore, hstories]
  unfold OrderNoticed at h ⊢
  rw [hs, ht]
  split <;> rename_i hrp <;> rw [hrp] at h
  · exact h
  · rw [ha, hb, htarget]
    exact h

theorem orderNoticeAt_same (c : ChannelId) (s : State) : OrderNoticed s (orderNoticeAt c s) c := by
  have hstories := channelsOnly_orderNoticeAt c s
  have ha (i : Nat) : (orderNoticeAt c s).readableAfter i = s.readableAfter i := by rw [hstories]; rfl
  have hb (i : Nat) : (orderNoticeAt c s).readableBefore i = s.readableBefore i := by rw [hstories]; rfl
  unfold OrderNoticed
  cases hrp : (s.channel c).readPoint with
  | none => simp [orderNoticeAt, hrp]
  | some rp =>
    simp only [ha, hb]
    simp only [orderNoticeAt, hrp]
    split
    · rename_i hclears
      have hend : ((s.channel c).endFlag && !((s.channel c).endFlag && !(s.readableAfter rp.story).isEmpty))
          = ((s.channel c).endFlag && (s.readableAfter rp.story).isEmpty) := by
        cases (s.channel c).endFlag <;> simp
      have hstart : ((s.channel c).startFlag && !((s.channel c).startFlag && !(s.readableBefore rp.story).isEmpty))
          = ((s.channel c).startFlag && (s.readableBefore rp.story).isEmpty) := by
        cases (s.channel c).startFlag <;> simp
      rw [if_neg, targetFor_recompute]
      · simp only [recompute_same, State.modChannel_same, hend, hstart, hrp]
      · rintro ⟨h1, h2⟩
        simp only [Bool.or_eq_true, Bool.and_eq_true, Bool.not_eq_true'] at hclears
        rcases hclears with ⟨he, hne⟩ | ⟨he, hne⟩
        · rw [he, hne] at h1
          exact nomatch h1
        · rw [he, hne] at h2
          exact nomatch h2
    · rename_i hkeeps
      simp only [Bool.or_eq_true, not_or, Bool.and_eq_true, Bool.not_eq_true', not_and, Bool.not_eq_false] at hkeeps
      have hend : ((s.channel c).endFlag && (s.readableAfter rp.story).isEmpty) = (s.channel c).endFlag := by
        cases he : (s.channel c).endFlag with
        | false => rfl
        | true => exact hkeeps.1 he
      have hstart : ((s.channel c).startFlag && (s.readableBefore rp.story).isEmpty) = (s.channel c).startFlag := by
        cases he : (s.channel c).startFlag with
        | false => rfl
        | true => exact hkeeps.2 he
      rw [hend, hstart, if_pos ⟨rfl, rfl⟩, ← hrp]

theorem orderNoticeAt_other {c d : ChannelId} (h : d ≠ c) (s : State) : (orderNoticeAt c s).channel d = s.channel d := by
  unfold orderNoticeAt
  dsimp only
  split
  · rfl
  · split
    · rw [recompute_other h, State.modChannel_other _ h]
    · rfl

/-- The notice reaches both channels, each by its own record (R3, R59). -/
theorem orderNotice_noticed {s u : State} (h : ∀ c, u.channel c = s.channel c) {st : Status} {e : Byte} {p : Payload}
    (c : ChannelId) : OrderNoticed s ((orderNotice u).respond st e p) c := by
  have hother : (orderNoticeAt .b (orderNoticeAt .a u)).channel .a = (orderNoticeAt .a u).channel .a :=
    orderNoticeAt_other (by decide) _
  have hfirst : (orderNoticeAt .a u).channel .b = u.channel .b := orderNoticeAt_other (by decide) _
  have hframe := channelsOnly_orderNoticeAt .b (orderNoticeAt .a u)
  cases c with
  | a =>
    refine (orderNoticeAt_same .a u).congr (h .a).symm ((State.respond_channel _ st e p .a).trans hother) ?_ ?_
    · rw [State.respond_stories, orderNotice, hframe]
    · rw [targetFor_respond]
      exact targetFor_congr hother (by rw [orderNotice, hframe]; rfl) (by rw [orderNotice, hframe])
  | b =>
    refine (orderNoticeAt_same .b (orderNoticeAt .a u)).congr (by rw [hfirst, h]) (State.respond_channel _ st e p .b) rfl ?_
    exact targetFor_respond _ st e p .b

theorem orderNotice_stories (u : State) : (orderNotice u).stories = u.stories := by
  rw [channelsOnly_orderNotice u]

theorem orderNotice_link (u : State) : (orderNotice u).link = u.link := (channelsOnly_orderNotice u).link

/-! ## The running order (R3) -/

/-- An insertion puts the record right after its anchor, at the head for anchor 0. -/
theorem insertAfter_splits {anchor : Nat} (st : Story) {l : List Story} (h : anchor = 0 ∨ anchor ∈ l.map Story.id) :
    ∃ before after, l = before ++ after ∧ (anchor = 0 → before = [])
      ∧ (anchor ≠ 0 → before.getLast?.map Story.id = some anchor) ∧ insertAfter anchor st l = before ++ st :: after := by
  by_cases h0 : anchor = 0
  · refine ⟨[], l, rfl, fun _ => rfl, fun hn => absurd h0 hn, ?_⟩
    cases l <;> simp [insertAfter, h0]
  · have hmem := h.resolve_left h0
    induction l with
    | nil => exact absurd hmem List.not_mem_nil
    | cons x xs ih =>
      by_cases hx : x.id = anchor
      · exact ⟨[x], xs, rfl, fun h => absurd h h0, fun _ => by simp [hx], by simp [insertAfter, h0, hx]⟩
      · have hxs : anchor ∈ xs.map Story.id := (List.mem_cons.mp hmem).resolve_left (Ne.symm hx)
        obtain ⟨before, after, hsplit, -, hlast, hins⟩ := ih (.inr hxs) hxs
        refine ⟨x :: before, after, by rw [hsplit]; rfl, fun h => absurd h h0, fun _ => ?_, ?_⟩
        · cases before with
          | nil => exact absurd (hlast h0) (by simp)
          | cons y ys => simpa using hlast h0
        · simp [insertAfter, h0, hx, hins]

theorem mem_removeStory_ids {s : State} {anchor id : Nat} (h : s.isLive anchor = true) (hne : anchor ≠ id) :
    anchor ∈ (removeStory id s.stories).map Story.id := by
  obtain ⟨x, hx, hid⟩ := List.mem_map.mp (State.isLive_iff_mem.mp h)
  exact List.mem_map.mpr ⟨x, List.mem_filter.mpr ⟨hx, by simpa [hid] using hne⟩, hid⟩

/-! ## STORY NEW -/

theorem exec_storyNew {id anchor : Nat} (hid : id ≤ 65535) (ha : anchor ≤ 65535) {s : State} (hs : Ready s) :
    exec (.storyNew (be16 id ++ be16 anchor)) s = .next (conclude 0x10 (cmdStoryNew id anchor s)) :=
  exec_rowOf (cmd := .storyNew id anchor) ⟨hid, ha⟩ (by simp [Command.args, be16, maxArgs]) hs

/-- Sections 1.1, 1.2, 1.7 and 3.5. Settles O12. -/
theorem storyNewInsertsAStory : Obligations.StoryNewInsertsAStory := by
  intro id anchor s hid ha hs
  dsimp only
  rw [exec_storyNew hid ha hs]
  refine ⟨fun h0 => ?zero, fun h0 hlive => ?duplicate, fun h0 hnew ha0 hgone => ?no_anchor,
    fun h0 hnew hanchor hfull => ?full, fun h0 hnew hanchor hroom => ?inserted⟩
  case zero => simp [cmdStoryNew, h0]
  case duplicate => simp [cmdStoryNew, h0, hlive]
  case no_anchor => simp [cmdStoryNew, h0, hnew, ha0, hgone]
  case full => simp [cmdStoryNew, h0, hnew, anchor_found hanchor, hfull]
  case inserted =>
    rw [cmdStoryNew, if_neg h0, if_neg (by simp [hnew]), if_neg (anchor_found hanchor), if_neg (by omega), conclude_okay]
    refine ⟨_, rfl, ?_, ?_, orderNotice_noticed fun c => by cases c <;> rfl, ?_⟩
    · rw [State.respond_link, orderNotice_link, orderNotice_stories, length_insertAfter]
    · rw [State.respond_stories, orderNotice_stories]
      exact insertAfter_splits _ (hanchor.imp_right State.isLive_iff_mem.mp)
    · unfold State.respond
      rw [channelsOnly_orderNotice]

/-! ## STORY MOVE -/

theorem exec_storyMove {id anchor : Nat} (hid : id ≤ 65535) (ha : anchor ≤ 65535) {s : State} (hs : Ready s) :
    exec (.storyMove (be16 id ++ be16 anchor)) s = .next (conclude 0x11 (cmdStoryMove id anchor s)) :=
  exec_rowOf (cmd := .storyMove id anchor) ⟨hid, ha⟩ (by simp [Command.args, be16, maxArgs]) hs

/-- Sections 1.2, 1.7 and 3.5. Settles O13. -/
theorem storyMoveReordersTheRundown : Obligations.StoryMoveReordersTheRundown := by
  intro id anchor s hid ha hs
  dsimp only
  rw [exec_storyMove hid ha hs]
  refine ⟨fun hgone => ?absent, fun hlive heq => ?onto_itself, fun hlive hne ha0 hgone => ?no_anchor,
    fun st hst hne hanchor => ?moved⟩
  case absent => simp [cmdStoryMove, State.story?_eq_none hgone]
  case onto_itself =>
    obtain ⟨st, hst⟩ := story?_of_isLive hlive
    simp [cmdStoryMove, hst, heq]
  case no_anchor =>
    obtain ⟨st, hst⟩ := story?_of_isLive hlive
    simp [cmdStoryMove, hst, hne, ha0, hgone]
  case moved =>
    simp only [cmdStoryMove, hst]
    rw [if_neg hne, if_neg (anchor_found hanchor), conclude_okay]
    refine ⟨_, rfl, ?_, ?_, orderNotice_noticed fun c => by cases c <;> rfl, ?_⟩
    · rw [State.respond_link, orderNotice_link]
    · rw [State.respond_stories, orderNotice_stories]
      exact insertAfter_splits st (hanchor.imp_right fun h => mem_removeStory_ids h hne)
    · unfold State.respond
      rw [channelsOnly_orderNotice]

/-! ## STORY FLOAT and STORY RESTORE -/

theorem exec_storyFloat {id : Nat} (hid : id ≤ 65535) {s : State} (hs : Ready s) :
    exec (.storyFloat (be16 id)) s = .next (conclude 0x12 (cmdStoryFloat id s)) :=
  exec_rowOf (cmd := .storyFloat id) hid (by simp [Command.args, be16, maxArgs]) hs

theorem exec_storyRestore {id : Nat} (hid : id ≤ 65535) {s : State} (hs : Ready s) :
    exec (.storyRestore (be16 id)) s = .next (conclude 0x13 (cmdStoryRestore id s)) :=
  exec_rowOf (cmd := .storyRestore id) hid (by simp [Command.args, be16, maxArgs]) hs

/-- Sections 1.5, 1.6 and 3.5. Settles O14. -/
theorem floatAndRestoreMoveTheSecondsOfAStory : Obligations.FloatAndRestoreMoveTheSecondsOfAStory := by
  intro id s hid hs
  rw [exec_storyFloat hid hs, exec_storyRestore hid hs]
  refine ⟨fun hgone => ?absent, fun st hst hair => ?doomed, fun st hst hair hf => ?restored,
    fun st hst hair hf => ?floated⟩
  case absent => simp [cmdStoryFloat, cmdStoryRestore, State.story?_eq_none hgone]
  case doomed => simp [cmdStoryFloat, cmdStoryRestore, hst, hair]
  case restored =>
    refine ⟨by simp [cmdStoryFloat, hst, hair, hf], ?_⟩
    simp only [cmdStoryRestore, hst, hair, hf, if_false, if_true, conclude_okay]
    refine ⟨_, rfl, ?_, ?_, ?_, orderNotice_noticed fun c => by cases c <;> rfl, ?_⟩
    · rw [State.respond_link, orderNotice_link]
      rfl
    · rw [State.respond_stories, orderNotice_stories]
      rfl
    · rw [State.respond_pt, channelsOnly_orderNotice]
      rfl
    · unfold State.respond
      rw [channelsOnly_orderNotice]
      rfl
  case floated =>
    refine ⟨by simp [cmdStoryRestore, hst, hair, hf], ?_⟩
    simp only [cmdStoryFloat, hst, hair, hf, if_false, Bool.false_eq_true, conclude_okay]
    exact ⟨_, rfl, rfl, rfl, rfl, rfl⟩

/-! ## STORY KILL -/

theorem exec_storyKill {id : Nat} (hid : id ≤ 65535) {s : State} (hs : Ready s) :
    exec (.storyKill (be16 id)) s = .next (conclude 0x14 (cmdStoryKill id s)) :=
  exec_rowOf (cmd := .storyKill id) hid (by simp [Command.args, be16, maxArgs]) hs

theorem cmdStoryKill_live {s : State} {id : Nat} {st : Story} (h : s.story? id = some st) :
    cmdStoryKill id s = okay (.kill (kill id s).2) (kill id s).1 := by simp [cmdStoryKill, h]

theorem openEmpty_eq_false {st : Story} (h : st.openA = true ∨ st.openB = true) : st.openEmpty = false := by
  rcases h with h | h <;> simp [Story.openEmpty, h]

theorem isLive_removeStory (id : Nat) {s : State} (h : s.stories = removeStory id s.stories) : s.isLive id = false := by
  rw [Bool.eq_false_iff, Ne, State.isLive_iff_mem, List.mem_map]
  rintro ⟨x, hx, hid⟩
  rw [h] at hx
  exact ne_of_mem_removeStory hx hid

theorem removeStory_removeStory (id : Nat) (l : List Story) : removeStory id (removeStory id l) = removeStory id l := by
  simp [removeStory, List.filter_filter]

/-- Sections 1.4, 1.5 and 2.2. Settles O15. -/
theorem storyKillFollowsTheOpenSet : Obligations.StoryKillFollowsTheOpenSet := by
  intro id s hid hs
  dsimp only
  rw [exec_storyKill hid hs]
  refine ⟨fun hgone => ?absent, fun st hst ha hb => ?retired, fun st hst ho hair => ?deferred,
    fun st hst ho hair => ?doomed⟩
  case absent => simp [cmdStoryKill, State.story?_eq_none hgone]
  case retired =>
    have hk : kill id s = (retire id s, .retired) := by simp [kill, hst, Story.openEmpty, ha, hb]
    obtain ⟨hstories, hlines, hpt⟩ := retire_live hst
    rw [cmdStoryKill_live hst, conclude_okay, hk]
    refine ⟨_, rfl, ?_, hstories, ?_, hlines, ?_, ?_⟩
    · rw [State.respond_link, retire_link_idle id hs.2.1]
    · rw [State.respond_isLive]
      exact isLive_removeStory id (by rw [hstories, removeStory_removeStory])
    · rw [State.respond_pt, hpt]
      cases hf : st.floated <;> cases hair : st.air <;> simp [Story.counted, Story.seconds, hf, hair]
    · have hframe := retire_frame id s
      unfold State.respond
      rw [hframe]
  case deferred =>
    have hk : kill id s = ({ s.modStory id (fun x => { x with air := .doomed }) with
        pt := if st.floated then s.pt else s.pt - st.seconds }, .deferred) := by
      simp [kill, hst, openEmpty_eq_false ho, hair]
    rw [cmdStoryKill_live hst, conclude_okay, hk]
    exact ⟨_, rfl, rfl, rfl, rfl, rfl⟩
  case doomed =>
    have hk : kill id s = (s, .deferred) := by simp [kill, hst, openEmpty_eq_false ho, hair]
    rw [cmdStoryKill_live hst, conclude_okay, hk]

/-! ## STORY PROPS -/

/-- An argument of STORY PROPS that the command does not define (R16). -/
abbrev BadProps (slug : Option (List Byte)) (p auto : Option Nat) : Prop :=
  (slug = none ∧ p = none ∧ auto = none) ∨ (∃ x, slug = some x ∧ 16 < x.length)
    ∨ (∃ a, auto = some a ∧ toAutoRetire a = none)

/-- The three argument tests of STORY PROPS, in the command's terms. -/
abbrev PropsTests (slug : Option (List Byte)) (p auto : Option Nat) : Prop :=
  ¬(slug = none ∧ p = none ∧ auto = none) ∧ ¬16 < (slug.getD []).length
    ∧ ¬(auto.any (fun b => (toAutoRetire b).isNone)) = true

theorem not_badProps_iff (slug : Option (List Byte)) (p auto : Option Nat) :
    ¬BadProps slug p auto ↔ PropsTests slug p auto := by
  cases slug <;> cases auto <;> simp [BadProps, PropsTests]

/-- The record STORY PROPS writes (R16). -/
def Story.withProps (st : Story) (slug : Option (List Byte)) (p auto : Option Nat) : Story :=
  { st with
    slug := match slug with
      | some t => storedText t
      | none => st.slug
    p := match p with
      | some x => takeP x
      | none => st.p
    autoRetire := (auto.bind toAutoRetire).getD st.autoRetire
    generation := (st.generation + 1) % 256 }

theorem toAutoRetire_pos {n : Nat} (h : 1 ≤ n) (hok : toAutoRetire n ≠ none) : toAutoRetire n = some true := by
  match n, h with
  | 1, _ => rfl
  | k + 2, _ =>
    have he : toAutoRetire (k + 2) = if Config.autoRetireClamps (k + 2) then some true else none := rfl
    rw [he] at hok ⊢
    split at hok
    · rename_i hc
      rw [if_pos hc]
    · exact absurd rfl hok

theorem cmdStoryProps_bad {s : State} {id : Nat} {st : Story} (hst : s.story? id = some st)
    {slug : Option (List Byte)} {p auto : Option Nat} (h : BadProps slug p auto) :
    cmdStoryProps id slug p auto s = refuse .argument s := by
  have hfail : ¬PropsTests slug p auto := fun ht => (not_badProps_iff slug p auto).mpr ht h
  simp only [cmdStoryProps, hst]
  split
  · rfl
  · rename_i h1
    split
    · rfl
    · rename_i h2
      split
      · rfl
      · rename_i h3
        exact absurd ⟨h1, h2, h3⟩ hfail

theorem cmdStoryProps_good {s : State} {id : Nat} {st : Story} (hst : s.story? id = some st)
    {slug : Option (List Byte)} {p auto : Option Nat} (h : ¬BadProps slug p auto) :
    cmdStoryProps id slug p auto s =
      if st.air = .doomed then refuse .state s
      else if slug.isSome = true ∧ st.lock ≠ .none then refuse .locked s
      else okay (.props (st.withProps slug p auto).p (substitutions (slug.getD [])) (st.withProps slug p auto).generation)
        { s.modStory id (fun _ => st.withProps slug p auto) with
          pt := if st.floated then s.pt else s.pt - st.seconds + (st.withProps slug p auto).seconds } := by
  obtain ⟨h1, h2, h3⟩ := (not_badProps_iff slug p auto).mp h
  simp only [cmdStoryProps, hst]
  rw [if_neg h1, if_neg h2, if_neg h3]
  rfl

/-- Sections 1.5, 1.7, 2.1 and 12.1. Settles O16. -/
theorem storyPropsWritesThePresentFields : Obligations.StoryPropsWritesThePresentFields := by
  intro id slug p auto s hf ha hs
  have hexec : exec (.storyProps (Command.storyProps id slug p auto).args) s
      = .next (conclude 0x15 (cmdStoryProps id slug p auto s)) := exec_rowOf hf ha hs
  dsimp only
  rw [hexec]
  refine ⟨fun hgone => ?absent, fun hlive hbad => ?bad, fun st hst hgood hair => ?doomed,
    fun st hst hgood hair hslug hlock => ?locked, fun st hst hgood hair hopen => ?written⟩
  case absent => simp [cmdStoryProps, State.story?_eq_none hgone]
  case bad =>
    obtain ⟨st, hst⟩ := story?_of_isLive hlive
    rw [cmdStoryProps_bad hst hbad, conclude_refuse]
  case doomed => rw [cmdStoryProps_good hst hgood, if_pos hair, conclude_refuse]
  case locked =>
    rw [cmdStoryProps_good hst hgood, if_neg hair, if_pos ⟨Option.isSome_iff_ne_none.mpr hslug, hlock⟩, conclude_refuse]
  case written =>
    have hunlocked : ¬(slug.isSome = true ∧ st.lock ≠ .none) := by
      rintro ⟨h1, h2⟩
      rcases hopen with rfl | h
      · exact nomatch h1
      · exact h2 h
    rw [cmdStoryProps_good hst hgood, if_neg hair, if_neg hunlocked, conclude_okay]
    refine ⟨_, st.withProps slug p auto, rfl, rfl, ?_, ?_, ?_, ?_, ?_, ?_, ?_, ?_, rfl, rfl, ?_, rfl⟩
    · rintro rfl
      rfl
    · rintro x rfl
      rfl
    · rintro rfl
      rfl
    · rintro rfl
      rfl
    · rintro n rfl hn
      exact if_neg hn
    · rintro rfl
      rfl
    · rintro rfl
      rfl
    · rintro n rfl hn
      have hok : toAutoRetire n ≠ none := fun h => hgood (.inr (.inr ⟨n, rfl, h⟩))
      simp [Story.withProps, toAutoRetire_pos hn hok]
    · rfl

/-! ## STORY LOCK and STORY UNLOCK -/

theorem exec_storyLock {id level : Nat} (hid : id ≤ 65535) (hl : level ≤ 255) {s : State} (hs : Ready s) :
    exec (.storyLock (be16 id ++ [u8 level])) s = .next (conclude 0x16 (cmdStoryLock id level s)) :=
  exec_rowOf (cmd := .storyLock id level) ⟨hid, hl⟩ (by simp [Command.args, be16, maxArgs]) hs

theorem exec_storyUnlock {id : Nat} (hid : id ≤ 65535) {s : State} (hs : Ready s) :
    exec (.storyUnlock (be16 id)) s = .next (conclude 0x17 (cmdStoryUnlock id s)) :=
  exec_rowOf (cmd := .storyUnlock id) hid (by simp [Command.args, be16, maxArgs]) hs

theorem toLockLevel_eq_none {n : Nat} (h : n = 0 ∨ 3 ≤ n) : toLockLevel n = none := by
  unfold toLockLevel
  split
  · omega
  · omega
  · rfl

/-- Sections 1.6 and 12.3. Settles O17. -/
theorem locksRiseAndAnEditorLockOpens : Obligations.LocksRiseAndAnEditorLockOpens := by
  intro id level s hid hl hs
  dsimp only
  rw [exec_storyLock hid hl hs, exec_storyUnlock hid hs]
  refine ⟨fun hgone => ?absent, fun hlive hno => ?no_level, fun st hst h1 => ?editor, fun st hst h2 => ?final,
    fun st hst => ?unlocked⟩
  case absent => simp [cmdStoryLock, cmdStoryUnlock, State.story?_eq_none hgone]
  case no_level =>
    obtain ⟨st, hst⟩ := story?_of_isLive hlive
    simp [cmdStoryLock, hst, toLockLevel_eq_none hno]
  case editor =>
    subst h1
    have hlevel : toLockLevel 1 = some .editor := rfl
    simp only [cmdStoryLock, hst, hlevel]
    cases hlock : st.lock <;> rfl
  case final =>
    subst h2
    have hlevel : toLockLevel 2 = some .final := rfl
    simp only [cmdStoryLock, hst, hlevel]
    cases hlock : st.lock <;> rfl
  case unlocked =>
    simp only [cmdStoryUnlock, hst]
    split
    · rw [conclude_refuse]
    · rfl

end Sys2Proof.Machine
end

section
/-! PROOF. The channel commands (R45, R47 to R50) and RUNDOWN CLEAR (R19). -/

namespace Sys2Proof.Machine

/-! ## A neutral leave -/

/-- What a neutral leave does: a DOOMED story that no channel is left in is retired, any other only closes. -/
theorem leave_neutral {s : State} {id : Nat} {st : Story} (h : s.story? id = some st) (c : ChannelId) :
    leave c id .neutral s =
      if (st.setOpen c false).openEmpty = true ∧ st.air = .doomed then
        { s with
          stories := s.stories.filter (fun x => x.id != id)
          freeLines := s.freeLines + st.lines.length
          link := if s.link.state = .executing (.check id) then
              { s.link with state := .answering ⟨.gone, 0x1B, .empty⟩ }
            else s.link }
      else { s with stories := s.stories.map (fun x => if x.id = id then x.setOpen c false else x) } := by
  have hair (lead : Bool) (a : AirState) : airLeft lead .neutral a = a := by cases lead <;> cases a <;> rfl
  rw [leave_eq_leftBy, State.leftBy]
  simp only [h, hair, reduceCtorEq, decide_false, Bool.and_false, Bool.false_and, Bool.false_eq_true, false_and, or_false,
    if_false]
  split
  · rfl
  · congr 1
    refine List.map_congr_left fun x _ => ?_
    split
    · cases c <;> rfl
    · rfl

/-- A neutral leave writes the stories, the free lines and the link alone. -/
theorem leave_neutral_frame (c : ChannelId) (id : Nat) (s : State) : leave c id .neutral s = { s with
    stories := (leave c id .neutral s).stories, freeLines := (leave c id .neutral s).freeLines
    link := (leave c id .neutral s).link } := by
  cases h : s.story? id with
  | none => rw [leave_absent h]
  | some st =>
    rw [leave_neutral h]
    split <;> rfl

theorem vacated_frame (c : ChannelId) (s : State) : s.vacated c = { s with
    stories := (s.vacated c).stories, freeLines := (s.vacated c).freeLines, link := (s.vacated c).link } := by
  unfold State.vacated
  split
  · exact leave_neutral_frame c _ s
  · rfl

theorem vacated_link (c : ChannelId) {s : State} (h : s.link.state = .idle) : (s.vacated c).link = s.link := by
  unfold State.vacated
  split
  · exact leave_link_idle c _ .neutral h
  · rfl

theorem vacated_of_no_story {s : State} {c : ChannelId} (h : s.currentStory c = none) : s.vacated c = s := by
  unfold State.vacated
  cases hrp : (s.channel c).readPoint with
  | none => rfl
  | some rp =>
    refine leave_absent ?_ c .neutral
    simpa [State.currentStory, hrp] using h

theorem vacated_of_story {s : State} {c : ChannelId} {old : Story} (h : s.currentStory c = some old) :
    s.vacated c = leave c old.id .neutral s ∧ s.story? old.id = some old := by
  obtain ⟨rp, hrp, hst⟩ := Option.bind_eq_some_iff.mp h
  have hid := State.story?_id hst
  rw [State.vacated, hrp, hid]
  exact ⟨rfl, hst⟩

/-! ## CHANNEL LOAD -/

theorem exec_channelLoad {ch id k : Nat} (hch : ch ≤ 255) (hid : id ≤ 65535) (hk : k ≤ 255) {s : State} (hs : Ready s) :
    exec (.channelLoad (u8 ch :: be16 id ++ [u8 k])) s = .next (conclude 0x30 (onChannel ch (loadChannel id k) s)) :=
  exec_rowOf (cmd := .channelLoad ch id k) ⟨hch, hid, hk⟩ (by simp [Command.args, be16, maxArgs]) hs

theorem loadChannel_readable {s : State} {id : Nat} {st : Story} (h : s.story? id = some st) (hr : st.readable = true)
    (k : Nat) (c : ChannelId) : loadChannel id k c s
      = okay (.loaded ⟨id, min k st.n, 0, 0⟩ (min k st.n) st.generation) (loadState c ⟨id, min k st.n, 0, 0⟩ s) := by
  simp only [loadChannel, h]
  rw [if_neg (by simp [hr])]
  rfl

theorem toChannel_of_lt {n : Nat} (h : n < 2) : ∃ c, toChannel n = some c := by
  match n, h with
  | 0, _ => exact ⟨.a, rfl⟩
  | 1, _ => exact ⟨.b, rfl⟩

theorem loadState_entered (c : ChannelId) (rp : ReadPoint) (s : State) : (loadState c rp s).stories
    = (s.vacated c).stories.map (fun x => if x.id = rp.story then x.setOpen c true else x) := by
  rw [loadState_stories, enter, State.modChannel_stories, State.modStory, State.place_stories]

theorem loadState_link (c : ChannelId) (rp : ReadPoint) (s : State) : (loadState c rp s).link = (s.vacated c).link := by
  rw [loadState_eq, atRest, enter]
  simp

theorem loadState_frame (c : ChannelId) (rp : ReadPoint) (s : State) : loadState c rp s = { s with
    stories := (loadState c rp s).stories, freeLines := (loadState c rp s).freeLines, link := (loadState c rp s).link
    channelA := (loadState c rp s).channelA, channelB := (loadState c rp s).channelB } := by
  rw [loadState_eq, vacated_frame]
  cases c <;> rfl

theorem loadState_freeLines (c : ChannelId) (rp : ReadPoint) (s : State) :
    (loadState c rp s).freeLines = (s.vacated c).freeLines := by
  rw [loadState_eq, atRest, enter]
  simp

/-- The loaded story has the channel in its open set (R5). -/
theorem loadState_opens {s : State} {rp : ReadPoint} {st : Story} (h : s.story? rp.story = some st)
    (hair : st.air ≠ .doomed) (c : ChannelId) : ((loadState c rp s).story? rp.story).map (fun x => x.opens c) = some true := by
  obtain ⟨x, hx⟩ := story?_of_isLive (isLive_vacated h hair c)
  have he := State.story?_modStory hx (f := fun x => x.setOpen c true) fun x => Story.setOpen_id x c true
  have hstories : (loadState c rp s).story? rp.story
      = ((s.vacated c).modStory rp.story (fun x => x.setOpen c true)).story? rp.story := by
    rw [State.story?, loadState_entered]
    rfl
  rw [hstories, he, Option.map_some, Story.setOpen_opens_same]

theorem readable_iff (st : Story) : st.readable = true ↔ st.floated = false ∧ st.air ≠ .doomed := by
  simp [Story.readable]

/-- Sections 3.2, 3.4, 1.3 and 1.4. Settles O25. -/
theorem channelLoadPlacesTheReadPoint : Obligations.ChannelLoadPlacesTheReadPoint := by
  intro ch id k s hch hid hk hs
  dsimp only
  rw [exec_channelLoad hch hid hk hs]
  refine ⟨fun hno => ?no_channel, fun hlt hgone => ?absent, fun st hlt hst hnot => ?unreadable,
    fun c st hc hst hf hair => ?loaded⟩
  case no_channel => rw [onChannel_none hno, conclude_refuse]
  case absent =>
    obtain ⟨c, hc⟩ := toChannel_of_lt hlt
    rw [onChannel_some hc]
    simp [loadChannel, State.story?_eq_none hgone]
  case unreadable =>
    obtain ⟨c, hc⟩ := toChannel_of_lt hlt
    have hr : st.readable = false := by rcases hnot with h | h <;> simp [Story.readable, h]
    rw [onChannel_some hc]
    simp [loadChannel, hst, hr]
  case loaded =>
    rw [onChannel_some hc, loadChannel_readable hst ((readable_iff st).mpr ⟨hf, hair⟩), conclude_okay]
    refine ⟨_, rfl, ?link, ?channel, ?other, ?opens, ⟨?empty, ?left⟩, ?frame⟩
    case link => rw [State.respond_link, loadState_link, vacated_link c hs.2.1]; rfl
    case channel => rw [State.respond_channel, loadState_channel_same]; rfl
    case other =>
      intro d hd
      rw [State.respond_channel, loadState_channel_other hd]
    case opens =>
      rw [State.respond_story]
      exact loadState_opens (rp := ⟨id, min k st.n, 0, 0⟩) hst hair c
    case empty =>
      intro hnone
      rw [State.respond_stories, State.respond_freeLines, loadState_entered, loadState_freeLines,
        vacated_of_no_story hnone]
      exact ⟨rfl, rfl⟩
    case left =>
      intro old hold
      obtain ⟨he, hlive⟩ := vacated_of_story hold
      rw [State.respond_stories, State.respond_freeLines, loadState_entered, loadState_freeLines, he, leave_neutral hlive]
      refine ⟨fun ⟨h1, h2⟩ => ?_, fun h => ?_⟩
      · rw [if_pos ⟨h2, h1⟩]
        exact ⟨rfl, rfl⟩
      · rw [if_neg (by rintro ⟨h1, h2⟩; exact h.elim (fun h => h h2) (fun h => nomatch h.symm.trans h1))]
        exact ⟨rfl, rfl⟩
    case frame =>
      unfold State.respond
      rw [loadState_frame]

/-! ## CHANNEL PARK and CHANNEL UNLOAD -/

theorem exec_channelPark {ch : Nat} (hch : ch ≤ 255) {s : State} (hs : Ready s) :
    exec (.channelPark [u8 ch]) s = .next (conclude 0x32 (onChannel ch parkChannel s)) :=
  exec_rowOf (cmd := .channelPark ch) hch (by simp [Command.args, maxArgs]) hs

theorem exec_channelUnload {ch : Nat} (hch : ch ≤ 255) {s : State} (hs : Ready s) :
    exec (.channelUnload [u8 ch]) s
      = .next (conclude 0x33 (onChannel ch (fun c s => okay .empty (unload c s)) s)) :=
  exec_rowOf (cmd := .channelUnload ch) hch (by simp [Command.args, maxArgs]) hs

/-- A channel's record after an unload (R48). -/
def Channel.unloaded (ch : Channel) : Channel :=
  { ch with
    state := .unloaded, readPoint := none, speed := 0, target := 0, endFlag := false, startFlag := false, paused := false
    storyChanged := ch.storyChanged || ch.readPoint.isSome }

theorem unload_of_unloaded {c : ChannelId} {s : State} (h : (s.channel c).state = .unloaded) : unload c s = s :=
  if_pos h

theorem unload_of_loaded {c : ChannelId} {s : State} (h : (s.channel c).state ≠ .unloaded) :
    unload c s = (s.vacated c).modChannel c Channel.unloaded := if_neg h

theorem unload_channel_same {c : ChannelId} {s : State} (h : (s.channel c).state ≠ .unloaded) :
    (unload c s).channel c = (s.channel c).unloaded := by
  rw [unload_of_loaded h, State.modChannel_same, vacated_channel]

theorem unload_channel_other {c d : ChannelId} (hd : d ≠ c) (s : State) : (unload c s).channel d = s.channel d := by
  by_cases h : (s.channel c).state = .unloaded
  · rw [unload_of_unloaded h]
  · rw [unload_of_loaded h, State.modChannel_other _ hd, vacated_channel]

theorem unload_frame (c : ChannelId) (s : State) : unload c s = { s with
    stories := (unload c s).stories, freeLines := (unload c s).freeLines, link := (unload c s).link
    channelA := (unload c s).channelA, channelB := (unload c s).channelB } := by
  by_cases h : (s.channel c).state = .unloaded
  · rw [unload_of_unloaded h]
  · rw [unload_of_loaded h, vacated_frame]
    cases c <;> rfl

/-- Sections 3.2, 3.4, 1.3 and 1.4. Settles O27. -/
theorem parkStopsAndUnloadLeaves : Obligations.ParkStopsAndUnloadLeaves := by
  intro ch s hch hs
  dsimp only
  rw [exec_channelPark hch hs, exec_channelUnload hch hs]
  refine ⟨fun hno => ?no_channel, fun c hc hst => ?unloaded, fun c rp hc hst hrp => ?parked,
    fun c rp hc hst hrp => ?live, fun c rp st hc hst hrp hstory => ?leaves⟩
  case no_channel => rw [onChannel_none hno, onChannel_none hno, conclude_refuse, conclude_refuse]; exact ⟨rfl, rfl⟩
  case unloaded =>
    rw [onChannel_some hc, onChannel_some hc, conclude_okay, unload_of_unloaded hst]
    simp [parkChannel, hst]
  case parked =>
    rw [onChannel_some hc]
    simp [parkChannel, hst, readPointPayload, hrp]
  case live =>
    rw [onChannel_some hc]
    simp only [parkChannel, hst, readPointPayload, hrp, conclude_okay]
    refine ⟨_, rfl, by simp, by simp [hrp], fun d hd => ?_, ?_⟩
    · rw [State.respond_channel, State.modChannel_other s hd]
    · cases c <;> rfl
  case leaves =>
    have hold : s.currentStory c = some st := by simp [State.currentStory, hrp, hstory]
    obtain ⟨he, hlive⟩ := vacated_of_story hold
    have hid := State.story?_id hstory
    rw [onChannel_some hc, conclude_okay]
    refine ⟨_, rfl, rfl, ?channel, ?other, ?retired, ?closed, ?pt, ?frame⟩
    case channel =>
      rw [State.respond_channel, unload_channel_same hst]
      simp [Channel.unloaded, hrp]
    case other =>
      intro d hd
      rw [State.respond_channel, unload_channel_other hd]
    case retired =>
      rintro ⟨h1, h2⟩
      rw [State.respond_stories, State.respond_freeLines, unload_of_loaded hst, State.modChannel_stories,
        State.modChannel_freeLines, he, leave_neutral hlive, if_pos ⟨h2, h1⟩, hid]
      exact ⟨rfl, rfl⟩
    case closed =>
      intro h
      rw [State.respond_stories, State.respond_freeLines, unload_of_loaded hst, State.modChannel_stories,
        State.modChannel_freeLines, he, leave_neutral hlive,
        if_neg (by rintro ⟨h1, h2⟩; exact h.elim (fun h => h h2) (fun h => nomatch h.symm.trans h1)), hid]
      exact ⟨rfl, rfl⟩
    case pt => rw [State.respond_pt, unload_frame]
    case frame =>
      unfold State.respond
      rw [unload_frame]

/-! ## RUNDOWN CLEAR -/

theorem exec_rundownClear {s : State} (hs : Ready s) :
    exec (.rundownClear []) s = .next (conclude 0x21 (cmdRundownClear s)) :=
  exec_rowOf (cmd := .rundownClear) trivial (by simp [Command.args, maxArgs]) hs

/-- A neutral leave reads the stories and the free lines and no more of the store. -/
theorem leave_neutral_congr {s t : State} (c : ChannelId) (id : Nat) (h1 : t.stories = s.stories)
    (h2 : t.freeLines = s.freeLines) : (leave c id .neutral t).stories = (leave c id .neutral s).stories
      ∧ (leave c id .neutral t).freeLines = (leave c id .neutral s).freeLines := by
  have hst : t.story? id = s.story? id := by rw [State.story?, State.story?, h1]
  cases h : s.story? id with
  | none =>
    rw [leave_absent h, leave_absent (hst.trans h)]
    exact ⟨h1, h2⟩
  | some st =>
    rw [leave_neutral h, leave_neutral (hst.trans h)]
    split
    · exact ⟨by rw [h1], by rw [h2]⟩
    · exact ⟨by rw [h1], h2⟩

/-- The store after an unload: the neutral leave of the story of the channel, if it is loaded. -/
theorem unload_store {s t : State} {c : ChannelId} (hch : t.channel c = s.channel c) {l : State}
    (h1 : t.stories = l.stories) (h2 : t.freeLines = l.freeLines) :
    let left := if (s.channel c).state = .unloaded then l
      else match (s.channel c).readPoint with
        | some rp => l.leftBy c .neutral rp.story
        | none => l
    (unload c t).stories = left.stories ∧ (unload c t).freeLines = left.freeLines := by
  dsimp only
  split
  · rename_i h
    rw [unload_of_unloaded (by rw [hch, h])]
    exact ⟨h1, h2⟩
  · rename_i h
    rw [unload_of_loaded (by rwa [hch]), State.modChannel_stories, State.modChannel_freeLines, State.vacated, hch]
    cases (s.channel c).readPoint with
    | none => exact ⟨h1, h2⟩
    | some rp =>
      simp only
      rw [← leave_eq_leftBy]
      exact leave_neutral_congr c rp.story h1 h2

theorem exec_rundownClearCompletion (s : State) : exec .rundownClearCompletion s = .next (finishClear s) := rfl

theorem finishClear_eq {s : State} {n : Nat} (h : s.link.state = .executing (.clear n)) :
    finishClear s = (completeClear s).respond .ok 0x21 (.storyCount n) := by simp [finishClear, h]

theorem finishClear_idle {s : State} (h : ∀ n, s.link.state ≠ .executing (.clear n)) : finishClear s = s := by
  unfold finishClear
  split
  · rename_i n hn
    exact absurd hn (h n)
  · rfl

/-- Sections 1.9, 1.3, 1.4, 3.2, 7.5 and 7.6. Settles O19. -/
theorem rundownClearEmptiesTheRundown : Obligations.RundownClearEmptiesTheRundown := by
  refine ⟨fun s hs => ?taken, fun s n hx => ?completed, fun s hx => ?idle⟩
  case taken =>
    have hca (t : State) : (unload .a t).channel .b = t.channel .b := unload_channel_other (by decide) t
    have hcb (t : State) : (unload .b t).channel .a = t.channel .a := unload_channel_other (by decide) t
    have hstart (c : ChannelId) : ({ s with clearInProgress := true } : State).channel c = s.channel c := by cases c <;> rfl
    rw [exec_rundownClear hs, cmdRundownClear, conclude_running]
    have hlink : (unload .b (unload .a { s with clearInProgress := true })).link = s.link := by
      have ha := unload_link_idle .a (s := { s with clearInProgress := true }) hs.2.1
      exact (unload_link_idle .b (by rw [ha]; exact hs.2.1)).trans ha
    have hframe : unload .b (unload .a { s with clearInProgress := true }) = { s with
        clearInProgress := true
        stories := (unload .b (unload .a { s with clearInProgress := true })).stories
        freeLines := (unload .b (unload .a { s with clearInProgress := true })).freeLines
        link := (unload .b (unload .a { s with clearInProgress := true })).link
        channelA := (unload .b (unload .a { s with clearInProgress := true })).channelA
        channelB := (unload .b (unload .a { s with clearInProgress := true })).channelB } := by
      rw [unload_frame .b, unload_frame .a]
    have hstate (c : ChannelId) : ((unload .b (unload .a { s with clearInProgress := true })).channel c)
        = if (s.channel c).state = .unloaded then s.channel c else (s.channel c).unloaded := by
      cases c
      · rw [hcb]
        split
        · rename_i h
          rw [unload_of_unloaded (by rw [hstart, h]), hstart]
        · rename_i h
          rw [unload_channel_same (by rwa [hstart]), hstart]
      · split
        · rename_i h
          rw [unload_of_unloaded (by rw [hca, hstart, h]), hca, hstart]
        · rename_i h
          rw [unload_channel_same (by rwa [hca, hstart]), hca, hstart]
    have hstoreA := unload_store (s := s) (t := { s with clearInProgress := true }) (hstart .a) (l := s) rfl rfl
    have hstoreB := unload_store (s := s) (t := unload .a { s with clearInProgress := true }) (c := .b)
      ((hca _).trans (hstart .b)) hstoreA.1 hstoreA.2
    refine ⟨_, rfl, ?_, by rw [hlink], fun c h => ?_, fun c h => ?_, ⟨hstoreB.1, hstoreB.2, ?_⟩, ?_⟩
    · rw [hframe]
    · refine Eq.trans (by cases c <;> rfl) ((hstate c).trans (if_pos h))
    · refine Eq.trans (by cases c <;> rfl) ((hstate c).trans (if_neg h))
    · rw [hframe]
    · rw [hframe]
  case completed =>
    rw [exec_rundownClearCompletion, finishClear_eq hx]
    refine ⟨_, rfl, rfl, rfl, rfl, rfl, fun c => ?_, rfl, rfl, rfl⟩
    cases c <;> rfl
  case idle => rw [exec_rundownClearCompletion, finishClear_idle hx]

end Sys2Proof.Machine
end

section
/-! PROOF. CHANNEL TUNE and STATUS (R49, R50), CUES REARM (R116), the cue outputs and firing (R111 to R117), the clock
(R97 to R102), the device (R173), STATION STATUS (R133), HEAD SET and HEAD STATUS (R151, R152). -/

namespace Sys2Proof.Machine

/-! ## Lengths of optional fields -/

theorem length_sendOpt_le {α : Type} {send : α → List Byte} {n : Nat} (h : ∀ a, (send a).length ≤ n) (x : Option α) :
    (sendOpt send x).length ≤ n := by
  cases x with
  | none => exact Nat.zero_le n
  | some a => exact h a

theorem length_sendOpt_be16 (x : Option Nat) : (sendOpt be16 x).length ≤ 2 :=
  length_sendOpt_le (fun _ => (by simp [be16])) x

theorem length_sendOpt_byte1 (x : Option Nat) : (sendOpt byte1 x).length ≤ 1 :=
  length_sendOpt_le (fun _ => (by simp [byte1])) x

/-! ## CHANNEL TUNE -/

theorem exec_channelTune {ch : Nat} {f : TuneFields} (hf : (Command.channelTune ch f).fits) {s : State} (hs : Ready s) :
    exec (.channelTune (Command.channelTune ch f).args) s = .next (conclude 0x34 (onChannel ch (tuneChannel f) s)) := by
  refine exec_rowOf hf ?_ hs
  have h1 := length_sendOpt_be16 f.vmax
  have h2 := length_sendOpt_be16 f.vrev
  have h3 := length_sendOpt_byte1 f.dz
  have h4 := length_sendOpt_byte1 f.curve
  have h5 := length_sendOpt_byte1 f.rampUp
  have h6 := length_sendOpt_byte1 f.rampDown
  have h7 := length_sendOpt_byte1 f.jogStep
  have h8 := length_sendOpt_byte1 f.guard
  simp only [Command.args, maxArgs, List.length_append, List.length_cons, List.length_nil]
  omega

theorem TuneFields.noField_iff (f : TuneFields) :
    f.noField = true ↔ f = ⟨none, none, none, none, none, none, none, none⟩ := by
  obtain ⟨a, b, c, d, e, g, h, i⟩ := f
  simp [TuneFields.noField, and_assoc]

theorem tunedCurve_eq_none {t : Tuning} {f : TuneFields} {n : Nat} (h : f.curve = some n) (hn : 2 ≤ n) :
    tunedCurve t f = none := by
  match n, hn with
  | k + 2, _ => simp [tunedCurve, h, toCurve]

/-- The curve in effect after a CHANNEL TUNE that names none or a defined one (R49). -/
def TuneFields.curveAfter (f : TuneFields) (t : Tuning) : Curve :=
  match f.curve with
  | some 0 => .linear
  | some _ => .square
  | none => t.curve

theorem tunedCurve_eq_some {t : Tuning} {f : TuneFields} (h : ¬∃ n, f.curve = some n ∧ 2 ≤ n) :
    tunedCurve t f = some (f.curveAfter t) := by
  cases hc : f.curve with
  | none => simp [tunedCurve, TuneFields.curveAfter, hc]
  | some n =>
    have hn : n < 2 := by
      refine Classical.byContradiction fun hge => ?_
      exact h ⟨n, hc, by omega⟩
    match n, hn with
    | 0, _ => simp [tunedCurve, TuneFields.curveAfter, hc, toCurve]
    | 1, _ => simp [tunedCurve, TuneFields.curveAfter, hc, toCurve]

theorem clampedField_eq (lo hi old : Nat) (x : Option Nat) :
    (x.map (clampNat lo hi)).getD old = match x with
      | some n => max lo (min hi n)
      | none => old := by
  cases x <;> rfl

theorem clampedField_zero (hi old : Nat) (x : Option Nat) :
    (x.map (clampNat 0 hi)).getD old = match x with
      | some n => min hi n
      | none => old := by
  cases x <;> simp [clampNat]

/-- Sections 3.2 and 12.1. Settles O28. -/
theorem channelTuneClampsAndLimits : Obligations.ChannelTuneClampsAndLimits := by
  intro ch f s hf hs
  dsimp only
  rw [exec_channelTune hf hs]
  refine ⟨fun hno => ?no_channel, fun hlt hbad => ?bad, fun c hc hfield hcurve => ?tuned⟩
  case no_channel => rw [onChannel_none hno, conclude_refuse]
  case bad =>
    obtain ⟨c, hc⟩ := toChannel_of_lt hlt
    rw [onChannel_some hc, tuneChannel]
    rcases hbad with h | ⟨n, h, hn⟩
    · rw [if_pos ((TuneFields.noField_iff f).mpr h), conclude_refuse]
    · rw [tunedCurve_eq_none h hn]
      split <;> rw [conclude_refuse]
  case tuned =>
    rw [onChannel_some hc, tuneChannel, if_neg (fun h => hfield ((TuneFields.noField_iff f).mp h)),
      tunedCurve_eq_some hcurve]
    dsimp only
    rw [conclude_okay]
    refine ⟨_, (s.channel c).tuning.tuned f (f.curveAfter (s.channel c).tuning), rfl, ?_, ?_, ?_, ?_, ?_, ?_, ?_, ?_, ?_, ?_, ?_, fun d hd => ?_,
      respond_recompute_modChannel_frame rfl⟩
    · rw [State.respond_link, recompute_link, State.modChannel_link]
    · exact clampedField_eq 16 1023 _ f.vmax
    · exact clampedField_eq 16 1023 _ f.vrev
    · exact clampedField_zero 31 _ f.dz
    · rfl
    · exact clampedField_eq 1 64 _ f.rampUp
    · exact clampedField_eq 1 64 _ f.rampDown
    · exact clampedField_eq 1 64 _ f.jogStep
    · exact clampedField_zero 15 _ f.guard
    · rw [State.respond_channel, recompute_same, State.modChannel_same]
      rfl
    · rw [State.respond_channel, recompute_same, State.modChannel_same, targetFor_respond, targetFor_recompute]
    · rw [State.respond_channel, recompute_other hd, State.modChannel_other s hd]

/-! ## CHANNEL STATUS -/

theorem exec_channelStatus {ch : Nat} (hch : ch ≤ 255) {s : State} (hs : Ready s) :
    exec (.channelStatus [u8 ch]) s = .next (conclude 0x35 (onChannel ch statusChannel s)) :=
  exec_rowOf (cmd := .channelStatus ch) hch (by simp [Command.args, maxArgs]) hs

/-- The part after CHANNEL STATUS has been answered (R50). -/
def readChannel (c : ChannelId) (s : State) : State :=
  { s.modChannel c (fun ch =>
      { ch with storyChanged := false, ownerChanged := false, endReached := false, marked := false, mark := none }) with
    cues := if s.cues.lead = c then { s.cues with count := 0 } else s.cues }

theorem statusChannel_eq (c : ChannelId) (s : State) :
    statusChannel c s = okay (.channel (s.channelReport c)) (readChannel c s) := by
  unfold statusChannel readChannel
  dsimp only
  split <;> cases c <;> rfl

/-- Sections 3.2, 3.7 and 7.4. Settles O29. -/
theorem channelStatusReportsAndClears : Obligations.ChannelStatusReportsAndClears := by
  intro ch s hch hs
  rw [exec_channelStatus hch hs]
  refine ⟨fun hno => by rw [onChannel_none hno, conclude_refuse], fun c hc => ?_⟩
  rw [onChannel_some hc, statusChannel_eq, conclude_okay]
  refine ⟨_, s.channelReport c, rfl, ?link, rfl, rfl, rfl, rfl, rfl, rfl, rfl, rfl, rfl, rfl, rfl, rfl, fun h => ?no_point,
    fun rp st h hst => ?point, fun h => ?no_owner, fun p h => ?owner, rfl, ?channel, fun d hd => ?other, rfl, ?frame⟩
  case link => cases c <;> rfl
  case no_point => simp [State.channelReport, h]
  case point => simp [State.channelReport, h, hst]
  case no_owner => simp [State.channelReport, h]
  case owner => simp [State.channelReport, h]
  case channel => cases c <;> rfl
  case other =>
    rw [State.respond_channel]
    exact Eq.trans (by cases d <;> rfl) (State.modChannel_other s hd _)
  case frame => cases c <;> rfl

/-! ## CUES REARM -/

theorem exec_cuesRearm {id : Nat} (hid : id ≤ 65535) {s : State} (hs : Ready s) :
    exec (.cuesRearm (be16 id)) s = .next (conclude 0x22 (cmdCuesRearm id s)) :=
  exec_rowOf (cmd := .cuesRearm id) hid (by simp [Command.args, be16, maxArgs]) hs

/-- Section 7.3. Settles O24. -/
theorem cuesRearmClearsTheFiredFlags : Obligations.CuesRearmClearsTheFiredFlags := by
  intro id s hid hs
  rw [exec_cuesRearm hid hs]
  refine ⟨fun hgone => ?_, fun st hst => ?_⟩
  · rw [cmdCuesRearm, State.story?_eq_none hgone, conclude_refuse]
  · simp only [cmdCuesRearm, hst, conclude_okay]
    refine ⟨_, rfl, ?_, rfl, rfl⟩
    rw [State.respond_link, List.countP_eq_length_filter]
    rfl

/-! ## The clock -/

/-- Section 6.1. Settles O33. -/
theorem clockCommandsSetHoldAndResume : Obligations.ClockCommandsSetHoldAndResume := by
  intro v s hlo hhi hs
  have hset : exec (.clockSet (sbe32 v)) s = .next (conclude 0x50 (cmdClockSet v s)) :=
    exec_rowOf (cmd := .clockSet v) ⟨hlo, hhi⟩ (by simp [Command.args, sbe32, be32, maxArgs]) hs
  have hhold : exec (.clockHold []) s = .next (conclude 0x51 (cmdClockHold s)) :=
    exec_rowOf (cmd := .clockHold) trivial (by simp [Command.args, maxArgs]) hs
  have hresume : exec (.clockResume []) s = .next (conclude 0x52 (cmdClockResume s)) :=
    exec_rowOf (cmd := .clockResume) trivial (by simp [Command.args, maxArgs]) hs
  refine ⟨?_, ?_, ?_⟩
  · rw [hset]
    rfl
  · rw [hhold]
    cases h : s.clock.state <;> simp [cmdClockHold, h, State.respond]
  · rw [hresume]
    cases h : s.clock.state <;> simp [cmdClockResume, h, State.respond]

/-- Section 6.1. Settles O38. -/
theorem secondExpiryCountsDown : Obligations.SecondExpiryCountsDown := by
  intro s
  have hexec : exec .secondExpiry s = .next (countSecond s) := rfl
  refine ⟨fun h => ?_, fun h => ?_⟩
  · have hmax : max (-5999) (s.clock.tOff - 1) = if s.clock.tOff ≤ -5999 then -5999 else s.clock.tOff - 1 := by
      split <;> omega
    rw [hexec, countSecond]
    simp only [h, hmax]
  · rw [hexec, countSecond]
    simp only [h]

/-! ## The cue outputs -/

theorem exec_cueOutputSet {out action : Nat} {width level : Option Nat}
    (hf : (Command.cueOutputSet out action width level).fits) {s : State} (hs : Ready s) :
    exec (.cueOutputSet (Command.cueOutputSet out action width level).args) s
      = .next (conclude 0x62 (cmdCueOutputSet out action width level s)) := by
  refine exec_rowOf hf ?_ hs
  have h1 := length_sendOpt_byte1 width
  have h2 := length_sendOpt_byte1 level
  simp only [Command.args, maxArgs, List.length_append, List.length_cons, List.length_nil]
  omega

theorem exec_leadSet {ch : Nat} (hch : ch ≤ 255) {s : State} (hs : Ready s) :
    exec (.leadSet [u8 ch]) s = .next (conclude 0x61 (cmdLeadSet ch s)) :=
  exec_rowOf (cmd := .leadSet ch) hch (by simp [Command.args, maxArgs]) hs

theorem toOutput_eq_none {n : Nat} (h : n = 0 ∨ 5 ≤ n) : toOutput n = none := dif_neg (by omega)

theorem toOutput_succ (o : Fin 4) : toOutput (o.val + 1) = some o := by
  rw [toOutput, dif_pos (by omega)]
  rfl

theorem toAction_eq_none {n : Nat} (h : 4 ≤ n) : toAction n = none := by
  match n, h with
  | _ + 4, _ => rfl

theorem toAction_code (a : CueAction) : toAction a.code = some a := by cases a <;> rfl

theorem levelField_eq_none {l : Nat} (h : 2 ≤ l) : levelField (some l) = none := by
  match l, h with
  | _ + 2, _ => rfl

/-- A CUE OUTPUT SET whose output, action or level is none of the defined values (R111). -/
theorem cmdCueOutputSet_bad {out action : Nat} {width level : Option Nat} {s : State}
    (h : toOutput out = none ∨ toAction action = none ∨ levelField level = none) :
    cmdCueOutputSet out action width level s = refuse .argument s := by
  unfold cmdCueOutputSet
  split
  · rename_i h1 h2 h3
    rw [h1, h2, h3] at h
    simp at h
  · rfl

theorem cmdCueOutputSet_good {action : Nat} {width level : Option Nat} {o : Fin 4} {a : CueAction} {l : Option Level}
    (ha : a.code = action) (hl : levelField level = some l) (s : State) :
    cmdCueOutputSet (o.val + 1) action width level s = okay (.cueOutput a ((s.output o).configured a width l).width
        ((s.output o).configured a width l).level) (s.modOutput o (fun _ => (s.output o).configured a width l)) := by
  subst ha
  simp only [cmdCueOutputSet, toOutput_succ, toAction_code, hl]
  rfl

/-- Sections 7.1 and 7.2. Settles O35. -/
theorem cueCommandsConfigureTheOutputs : Obligations.CueCommandsConfigureTheOutputs := by
  refine ⟨fun out action width level s hf hs => ?_, fun ch s hch hs => ?_⟩
  · dsimp only
    rw [exec_cueOutputSet hf hs]
    refine ⟨fun hbad => ?_, fun o a ho ha hl => ?_⟩
    · rw [cmdCueOutputSet_bad, conclude_refuse]
      rcases hbad with h | h | h | ⟨l, rfl, h⟩
      · exact .inl (toOutput_eq_none (.inl h))
      · exact .inl (toOutput_eq_none (.inr h))
      · exact .inr (.inl (toAction_eq_none h))
      · exact .inr (.inr (levelField_eq_none h))
    · subst ho
      obtain ⟨l, hlevel⟩ : ∃ l, levelField level = some l := by
        match level, hl with
        | none, _ => exact ⟨none, rfl⟩
        | some 0, _ => exact ⟨some .low, rfl⟩
        | some 1, _ => exact ⟨some .high, rfl⟩
        | some (n + 2), h => exact absurd (h (n + 2) rfl) (by omega)
      rw [cmdCueOutputSet_good ha hlevel, conclude_okay]
      refine ⟨_, (s.output o).configured a width l, rfl, by simp, rfl, ?_, ?_, ?_, ?_, fun q hq => ?_, rfl, rfl⟩
      · exact clampedField_eq 10 250 _ width
      · rintro rfl
        cases hlevel
        exact ⟨rfl, rfl⟩
      · rintro rfl
        cases hlevel
        exact ⟨rfl, rfl⟩
      · rintro rfl
        cases hlevel
        refine ⟨rfl, ?_⟩
        cases a <;> simp [CueOutput.configured]
      · rw [State.respond_output, State.modOutput_other s hq]
  · rw [exec_leadSet hch hs]
    refine ⟨fun hno => ?_, fun c hc => ?_⟩
    · rw [cmdLeadSet, toChannel_eq_none hno, conclude_refuse]
    · simp only [cmdLeadSet, hc, conclude_okay]
      rfl

theorem reportLine_of_lead {c : ChannelId} {id k : Nat} {s : State} {st : Story} {l : Line} (hc : s.cues.lead = c)
    (hst : s.story? id = some st) (hl : st.lines[k - 1]? = some l) :
    reportLine c id k s = match cueOutput l.cue with
      | none => s
      | some o => if l.fired then s else fireCue id k l.cue o s := by
  simp only [reportLine, hc, hst, if_true, Option.bind_some, hl] <;> rfl

theorem cueOutput_eq_some {cue : Fin 5} {o : Fin 4} (h : cue.val = o.val + 1) : cueOutput cue = some o := by
  rw [cueOutput, dif_neg (by omega)]
  exact congrArg some (Fin.ext (by simp only; omega))

theorem Level.opposite_eq (l : Level) : l.opposite = if l = .low then .high else .low := by cases l <;> rfl

theorem modify_eq_set {ls : List Line} {k : Nat} {l : Line} (h : ls[k]? = some l) :
    ls.modify k (fun y => { y with fired := true }) = ls.set k { l with fired := true } := by
  refine List.ext_getElem? fun i => ?_
  rw [List.getElem?_modify, List.getElem?_set]
  by_cases hi : k = i
  · subst hi
    obtain ⟨hlt, rfl⟩ := List.getElem?_eq_some_iff.mp h
    simp [hlt]
  · simp [hi]

theorem fireCue_frame (id k : Nat) (cue : Fin 5) (o : Fin 4) (s : State) : fireCue id k cue o s = { s with
    stories := s.stories.map (fun x => if x.id = id then
      { x with lines := x.lines.modify (k - 1) (fun y => { y with fired := true }) } else x)
    cues := { s.cues with
      outputs := s.cues.outputs.set o (s.output o).fire, lastCue := cue, count := min 255 (s.cues.count + 1) } } := rfl

theorem State.modOutput_eq_self {s : State} {o : Fin 4} {f : CueOutput → CueOutput} (h : f (s.output o) = s.output o) :
    s.modOutput o f = s := by
  have hv : s.cues.outputs.set o (f s.cues.outputs[o]) = s.cues.outputs := by
    rw [show f s.cues.outputs[o] = s.cues.outputs[o] from h]
    simp
  unfold State.modOutput
  rw [hv]

/-- Sections 7.1, 7.3 and 7.4. Settles O39. -/
theorem cuesFireAndPulsesEnd : Obligations.CuesFireAndPulsesEnd := by
  intro s o
  have hexec : exec (.cuePulseExpiry o) s = .next (s.modOutput o CueOutput.expire) := rfl
  rw [hexec]
  refine ⟨fun hp => ?expires, fun hp => ?stopped, fun c id k hc => if_neg hc, fun c id k st l hc hst hl => ⟨fun h => ?idle,
    fun hcue hf => ?fires⟩⟩
  case expires =>
    refine ⟨_, rfl, ?_, fun q hq => State.modOutput_other s hq _, rfl⟩
    obtain ⟨n, hn⟩ := Option.ne_none_iff_exists'.mp hp
    rw [State.modOutput_same, CueOutput.expire, hn]
  case stopped =>
    rw [State.modOutput_eq_self (by rw [CueOutput.expire, hp])]
  case idle =>
    rw [reportLine_of_lead hc hst hl]
    split
    · rfl
    · rename_i hout
      rcases h with h | h
      · rw [h] at hout
        exact nomatch hout
      · rw [if_pos h]
  case fires =>
    have hfire : reportLine c id k s = fireCue id k l.cue o s := by
      rw [reportLine_of_lead hc hst hl, cueOutput_eq_some hcue]
      simp [hf]
    have hout (q : Fin 4) : (fireCue id k l.cue o s).output q = (s.modOutput o CueOutput.fire).output q := rfl
    rw [hfire]
    refine ⟨?_, fun q hq => ?_, ?_, rfl, rfl, rfl⟩
    · rw [hout, State.modOutput_same, CueOutput.fire]
      cases ha : (s.output o).action <;> simp only [ha, Level.opposite_eq]
    · rw [hout, State.modOutput_other s hq]
    · rw [← modify_eq_set hl]
      exact State.story?_modStory (s := s.modOutput o CueOutput.fire) hst (f := fun x =>
        { x with lines := x.lines.modify (k - 1) (fun y => { y with fired := true }) }) fun _ => rfl

/-! ## The device -/

/-- Sections 11.5 and 11.6. Settles O37. -/
theorem deviceStatusReportsTheSources : Obligations.DeviceStatusReportsTheSources := by
  intro s hs
  have hexec : exec (.deviceStatus []) s = .next (conclude 0x63 (cmdDeviceStatus s)) :=
    exec_rowOf (cmd := .deviceStatus) trivial (by simp [Command.args, maxArgs]) hs
  have hany (v : Vector Bool 4) : v.toList.any id = true ↔ ∃ p : Fin 4, v[p] = true := by
    simp only [List.any_eq_true, id_eq, exists_eq_right, Vector.mem_toList_iff, Vector.mem_iff_getElem]
    exact ⟨fun ⟨i, hi, h⟩ => ⟨⟨i, hi⟩, h⟩, fun ⟨p, h⟩ => ⟨p, p.isLt, h⟩⟩
  have hflags (ch : Channel) : ch.flagsPending = true ↔ ch.storyChanged = true ∨ ch.ownerChanged = true
      ∨ ch.endReached = true ∨ ch.marked = true := by
    simp [Channel.flagsPending, or_assoc]
  refine ⟨s.sources, by rw [hexec]; rfl, hflags _, hflags _, decide_eq_true_iff, fun p => ?_, fun h => ?_, rfl, ?_⟩
  · simp [State.sources, Station.errorPending, State.station, or_assoc]
  · simp [State.sources, State.head]
  · simp only [State.attention, Sources.any, Bool.or_eq_true, hany, or_assoc]

/-! ## STATION STATUS -/

theorem toPort_eq_none {n : Nat} (h : 4 ≤ n) : toPort n = none := dif_neg (by omega)

theorem toPort_val (p : Fin 4) : toPort p.val = some p := dif_pos p.isLt

theorem onPort_none {n : Nat} (h : 4 ≤ n) (f : Fin 4 → State → State × Taken) (s : State) :
    onPort n f s = refuse .argument s := by simp [onPort, toPort_eq_none h]

theorem onPort_some (p : Fin 4) (f : Fin 4 → State → State × Taken) (s : State) : onPort p.val f s = f p s := by
  simp [onPort, toPort_val]

theorem exec_stationStatus {n : Nat} (hn : n ≤ 255) {s : State} (hs : Ready s) :
    exec (.stationStatus [u8 n]) s = .next (conclude 0x41 (onPort n statusStation s)) :=
  exec_rowOf (cmd := .stationStatus n) hn (by simp [Command.args, maxArgs]) hs

/-- Sections 8.5 and 9.6. Settles O31. -/
theorem stationStatusReportsAndClears : Obligations.StationStatusReportsAndClears := by
  intro n s hn hs
  rw [exec_stationStatus hn hs]
  refine ⟨fun hno => by rw [onPort_none hno, conclude_refuse], fun p hp => ?_⟩
  subst hp
  rw [onPort_some, statusStation, conclude_okay]
  refine ⟨_, s.stationReport p, rfl, rfl, rfl, rfl, ?_, fun q hq => ?_, rfl⟩
  · rw [State.respond_station, State.modStation_same]
  · rw [State.respond_station, State.modStation_other s hq]

/-! ## HEAD SET and HEAD STATUS -/

theorem exec_headSet {n ch : Nat} (hn : n ≤ 255) (hch : ch ≤ 255) {s : State} (hs : Ready s) :
    exec (.headSet [u8 n, u8 ch]) s = .next (conclude 0x48 (onPort n (setHead ch) s)) :=
  exec_rowOf (cmd := .headSet n ch) ⟨hn, hch⟩ (by simp [Command.args, maxArgs]) hs

theorem exec_headStatus {n : Nat} (hn : n ≤ 255) {s : State} (hs : Ready s) :
    exec (.headStatus [u8 n]) s = .next (conclude 0x49 (onPort n statusHead s)) :=
  exec_rowOf (cmd := .headStatus n) hn (by simp [Command.args, maxArgs]) hs

theorem setHead_bad {ch : Nat} (h : 3 ≤ ch) (p : Fin 4) (s : State) : setHead ch p s = refuse .argument s := by
  match ch, h with
  | _ + 3, _ => rfl

theorem setHead_attach {ch : Nat} {c : ChannelId} (h : toChannel ch = some c) (p : Fin 4) (s : State) :
    setHead ch p s = okay (.attachment (some c)) (s.modHead p (attachHead s c)) := by
  match ch, h with
  | 0, h => cases h; rfl
  | 1, h => cases h; rfl

/-- What starting a frame leaves of a port. -/
theorem Head.start_keeps (h : Head) : h.start.attachment = h.attachment ∧ h.start.overrun = h.overrun
    ∧ (h.waitingPos = none → h.start.waitingPos = none) := by
  have hanswer : h.startAnswer.attachment = h.attachment ∧ h.startAnswer.overrun = h.overrun
      ∧ (h.waitingPos = none → h.startAnswer.waitingPos = none) := by
    unfold Head.startAnswer
    split <;> exact ⟨rfl, rfl, fun e => e⟩
  have hposition : h.startPosition.attachment = h.attachment ∧ h.startPosition.overrun = h.overrun
      ∧ (h.waitingPos = none → h.startPosition.waitingPos = none) := by
    unfold Head.startPosition
    split
    · exact ⟨rfl, rfl, fun e => e⟩
    · exact ⟨rfl, rfl, fun _ => rfl⟩
    · exact ⟨rfl, rfl, fun e => e⟩
  unfold Head.start
  split
  · exact ⟨rfl, rfl, fun e => e⟩
  · split
    · split
      · exact hposition
      · exact hanswer
    · split
      · exact hanswer
      · exact hposition

theorem Head.pump_keeps (s : State) (h : Head) : (h.pump s).attachment = h.attachment ∧ (h.pump s).overrun = h.overrun
    ∧ (h.waitingPos = none → (h.pump s).waitingPos = none) := Head.start_keeps (h.takeAll s)

/-- A busy transmitter goes on with its frame, and what waits of the position kind goes on waiting. -/
theorem Head.pump_sending {h : Head} (hs : h.sending ≠ none) (s : State) : (h.pump s).sending = h.sending
    ∧ (h.pump s).lastKind = h.lastKind ∧ (h.pump s).pendingGeom = h.pendingGeom := by
  have hb : (h.takeAll s).start = h.takeAll s := Head.start_busy hs
  rw [Head.pump, hb]
  exact ⟨rfl, rfl, rfl⟩

/-- Sections 10.2 and 10.4. Settles O32. -/
theorem headCommandsAttachAndReport : Obligations.HeadCommandsAttachAndReport := by
  intro n ch s hn hch hs
  rw [exec_headSet hn hch hs, exec_headStatus hn hs]
  refine ⟨fun hbad => ?bad, fun hno => by rw [onPort_none hno, conclude_refuse], fun h hh hc => ?detach,
    fun h c hh hc => ?attach, fun h hh => ?status⟩
  case bad =>
    rcases hbad with h | h
    · rw [onPort_none h, conclude_refuse]
    · by_cases hp : 4 ≤ n
      · rw [onPort_none hp, conclude_refuse]
      · rw [show n = (⟨n, by omega⟩ : Fin 4).val from rfl, onPort_some, setHead_bad h, conclude_refuse]
  case detach =>
    subst hh hc
    rw [onPort_some, show setHead 2 h s = okay (.attachment none) (s.modHead h Head.detach) from rfl, conclude_okay]
    refine ⟨_, rfl, ?_, fun q hq => ?_, rfl, rfl⟩
    · rw [State.respond_head, State.modHead_same]
      rfl
    · rw [State.respond_head, State.modHead_other s hq]
  case attach =>
    subst hh
    rw [onPort_some, setHead_attach hc, conclude_okay]
    have hhead : ((s.modHead h (attachHead s c)).respond .ok 0x48 (.attachment (some c))).head h
        = Head.pump s { s.head h with attachment := some c, pendingGeom := some s.heights, waitingPos := none } := by
      rw [State.respond_head, State.modHead_same]
      rfl
    obtain ⟨hatt, hover, hpos⟩ := Head.pump_keeps s
      { s.head h with attachment := some c, pendingGeom := some s.heights, waitingPos := none }
    refine ⟨_, rfl, ?_, ?_, ?_, fun hsend => ?_, fun hsend ha hr => ?_, fun q hq => ?_, rfl, rfl⟩
    · rw [hhead, hatt]
    · rw [hhead, hpos rfl]
    · rw [hhead, hover]
    · obtain ⟨h1, h2, h3⟩ := Head.pump_sending (h := { s.head h with
        attachment := some c, pendingGeom := some s.heights, waitingPos := none }) hsend s
      rw [hhead]
      exact ⟨h3, h1, h2, fun hcons => Head.pump_busy hsend hcons.2.2.1⟩
    · rw [hhead]
      exact queueGeometry_idle (h := { s.head h with attachment := some c }) hsend ha hr
    · rw [State.respond_head, State.modHead_other s hq]
  case status =>
    subst hh
    rw [onPort_some, statusHead, conclude_okay]
    refine ⟨_, rfl, ?_, fun q hq => ?_, rfl, rfl⟩
    · rw [State.respond_head, State.modHead_same]
    · rw [State.respond_head, State.modHead_other s hq]

/-! ## The ANSWER transmitter -/

/-- Section 8.4. Settles O48. -/
theorem anAnswerSentFreesTheTransmitter : Obligations.AnAnswerSentFreesTheTransmitter := by
  intro p s
  have hexec : exec (.answerTxDone p) s = .next (s.modStation p Station.answerSent) := rfl
  rw [hexec]
  refine ⟨_, rfl, ?_, fun q hq => State.modStation_other s hq _, rfl⟩
  rw [State.modStation_same, Station.answerSent]
  cases h : (s.station p).sending <;> simp

end Sys2Proof.Machine
end

section
/-! PROOF. The line pool: STORY SPLICE (R32, R34, R84 to R91), STORY CHECK (R38 to R41). -/

namespace Sys2Proof.Machine

/-! ## The checks of STORY SPLICE (R32) -/

/-- A new line that is refused (R32 step 2, R177). -/
abbrev BadLine (l : RawLine) : Prop :=
  40 < l.text.length ∨ l.attr.getLsbD 4 = true ∨ l.attr.getLsbD 3 = true ∨ 4 < l.attr.toNat % 8

/-- An argument of a splice that the command does not define (R32 step 2). -/
abbrev BadSplice (k m : Nat) (new : List RawLine) (st : Story) : Prop :=
  k = 0 ∨ st.lines.length + 1 < k ∨ (0 < m ∧ st.lines.length + 1 < k + m) ∨ 8 < new.length ∨ (m = 0 ∧ new = [])
    ∨ (∃ l ∈ new, BadLine l)

theorem newLine_eq_none_iff (l : RawLine) : newLine l = none ↔ BadLine l := by
  unfold newLine
  split
  · rename_i h
    simp only [Bool.or_eq_true, decide_eq_true_eq] at h
    refine ⟨fun _ => ?_, fun _ => rfl⟩
    rcases h with (h | h) | h
    · exact .inr (.inl h)
    · exact .inr (.inr (.inl h))
    · exact .inl h
  · rename_i h
    simp only [Bool.or_eq_true, decide_eq_true_eq, not_or] at h
    obtain ⟨⟨h4, h3⟩, hlen⟩ := h
    by_cases hcue : l.attr.toNat % 8 < 5
    · simp only [cueOf, dif_pos hcue, reduceCtorEq, false_iff]
      rintro (hbad | hbad | hbad | hbad)
      · exact hlen hbad
      · exact h4 hbad
      · exact h3 hbad
      · omega
    · simp only [cueOf, dif_neg hcue, true_iff]
      exact .inr (.inr (.inr (by omega)))

theorem newLines_eq_none_iff (new : List RawLine) : newLines new = none ↔ ∃ l ∈ new, newLine l = none := by
  induction new with
  | nil => simp [newLines]
  | cons l ls ih =>
    simp only [List.mem_cons, exists_eq_or_imp, ← ih]
    cases hl : newLine l <;> cases hls : newLines ls <;> simp [newLines, hl, hls]

theorem spliceArgsOk_eq_false_iff (n k m c : Nat) : spliceArgsOk n k m c = false ↔
    k = 0 ∨ n + 1 < k ∨ (0 < m ∧ n + 1 < k + m) ∨ 8 < c ∨ (m = 0 ∧ c = 0) := by
  simp only [spliceArgsOk, Bool.not_eq_false', Bool.or_eq_true, Bool.and_eq_true, decide_eq_true_eq, or_assoc]

/-- The argument tests of a splice fail exactly on an argument that the command does not define. -/
theorem badSplice_iff (k m : Nat) (new : List RawLine) (st : Story) :
    BadSplice k m new st ↔ spliceArgsOk st.n k m new.length = false ∨ newLines new = none := by
  rw [spliceArgsOk_eq_false_iff, newLines_eq_none_iff]
  simp only [newLine_eq_none_iff, List.length_eq_zero_iff, Story.n]
  simp only [BadSplice, or_assoc]

theorem exec_storySplice {id k m : Nat} {new : List RawLine} (hf : (Command.storySplice id k m new).fits)
    (ha : (Command.storySplice id k m new).args.length ≤ maxArgs) {s : State} (hs : Ready s) :
    exec (.storySplice (Command.storySplice id k m new).args) s
      = .next (conclude 0x18 (cmdStorySplice id k m new s)) := exec_rowOf hf ha hs

theorem cmdStorySplice_bad {s : State} {id k m : Nat} {new : List RawLine} {st : Story} (hst : s.story? id = some st)
    (h : BadSplice k m new st) : cmdStorySplice id k m new s = refuse .argument s := by
  simp only [cmdStorySplice, hst]
  rcases (badSplice_iff k m new st).mp h with h | h
  · rw [h]
    rfl
  · rw [h]
    split <;> rfl

theorem cmdStorySplice_good {s : State} {id k m : Nat} {new : List RawLine} {ls : List Line} {st : Story}
    (hst : s.story? id = some st) (hargs : spliceArgsOk st.n k m new.length = true) (hls : newLines new = some ls) :
    cmdStorySplice id k m new s =
      if st.air = .doomed then refuse .state s
      else if st.lock ≠ .none then refuse .locked s
      else if 255 + m < st.n + new.length then refuse .lineLimit s
      else if s.freeLines + m < new.length then refuse .poolEmpty s
      else if guardForbids s .a st k m || guardForbids s .b st k m then refuse .onAir s
      else okay (.splice (st.spliced s.heights k m ls).n (st.spliced s.heights k m ls).g
          (st.spliced s.heights k m ls).generation ((new.map (fun l => substitutions l.text)).sum))
        (spliceState id k m st ls s) := by
  simp only [cmdStorySplice, hst, hargs, hls, if_true, spliceState, length_newLines hls]

theorem goodSplice {k m : Nat} {new : List RawLine} {st : Story} (h : ¬BadSplice k m new st) :
    spliceArgsOk st.n k m new.length = true ∧ ∃ ls, newLines new = some ls := by
  rw [badSplice_iff, not_or, Bool.not_eq_false] at h
  exact ⟨h.1, Option.ne_none_iff_exists'.mp h.2⟩

/-- The live guard of a channel is met (R84, R85). -/
theorem guardForbids_of_meets {s : State} {c : ChannelId} {st : Story} {k m : Nat} {rp : ReadPoint}
    (hrp : (s.channel c).readPoint = some rp) (hopen : st.opens c = true) (hid : rp.story = st.id)
    (hlive : (s.channel c).state = .live)
    (h : (m = 0 ∧ rp.k ≤ k ∧ k + 1 ≤ rp.k + (s.channel c).tuning.guard)
      ∨ ∃ x, k ≤ x ∧ x < k + m ∧ rp.k ≤ x ∧ x < rp.k + (s.channel c).tuning.guard) :
    guardForbids s c st k m = true := by
  have hwindow : 0 < (s.channel c).tuning.guard ∧ meetsWindow rp.k (s.channel c).tuning.guard k m = true := by
    unfold meetsWindow
    rcases h with ⟨h0, h1, h2⟩ | ⟨x, h1, h2, h3, h4⟩
    · rw [if_pos h0, Bool.and_eq_true, decide_eq_true_eq, decide_eq_true_eq]
      omega
    · rw [if_neg (by omega), Bool.and_eq_true, decide_eq_true_eq, decide_eq_true_eq]
      omega
  simp [guardForbids, hrp, hopen, hid, hlive, hwindow]

/-- Sections 2.5 and 5.1. Settles O21. -/
theorem storySpliceChecksInOrder : Obligations.StorySpliceChecksInOrder := by
  intro id k m new s hf ha hs
  dsimp only
  rw [exec_storySplice hf ha hs]
  refine ⟨fun hgone => ?absent, fun st hst => ⟨fun hbad => ?bad, fun hgood hair => ?doomed,
    fun hgood hair hlock => ?locked, fun hgood hair hlock hlong => ?long, fun hgood hair hlock hlong hpool => ?pool,
    fun hgood hair hlock hlong hpool hmeets => ?on_air⟩⟩
  case absent => rw [cmdStorySplice, State.story?_eq_none hgone, conclude_refuse]
  case bad => rw [cmdStorySplice_bad hst hbad, conclude_refuse]
  all_goals
    obtain ⟨hargs, ls, hls⟩ := goodSplice hgood
    rw [cmdStorySplice_good hst hargs hls]
  case doomed => rw [if_pos hair, conclude_refuse]
  case locked => rw [if_neg hair, if_pos hlock, conclude_refuse]
  case long => rw [if_neg hair, if_neg (Classical.not_not.mpr hlock), if_pos (show 255 + m < st.n + new.length from hlong),
    conclude_refuse]
  case pool =>
    rw [if_neg hair, if_neg (Classical.not_not.mpr hlock), if_neg (show ¬255 + m < st.n + new.length from Nat.not_lt.mpr hlong), if_pos hpool, conclude_refuse]
  case on_air =>
    have hguard : (guardForbids s .a st k m || guardForbids s .b st k m) = true := by
      obtain ⟨c, rp, hrp, hopen, hid, hlive, h⟩ := hmeets
      have hc := guardForbids_of_meets hrp hopen hid hlive h
      cases c <;> simp [hc]
    rw [if_neg hair, if_neg (Classical.not_not.mpr hlock), if_neg (show ¬255 + m < st.n + new.length from Nat.not_lt.mpr hlong),
      if_neg (Nat.not_lt.mpr hpool), if_pos hguard, conclude_refuse]

/-! ## The anchoring of the read points (R87 to R91) -/

theorem State.story?_modStory_of_id {s : State} {id : Nat} {st : Story} (h : s.story? id = some st) {f : Story → Story}
    (hf : ∀ x, x.id = id → (f x).id = id) : (s.modStory id f).story? id = some (f st) := by
  unfold State.story? State.modStory at *
  rw [List.find?_map]
  have hcongr : ((fun x : Story => x.id == id) ∘ fun x => if x.id = id then f x else x) = fun x => x.id == id := by
    funext x
    simp only [Function.comp_apply]
    split
    · rename_i hid
      simp [hf x hid, hid]
    · rfl
  rw [hcongr, h, Option.map_some, if_pos (State.story?_id h)]

/-- The read point of the splice notice, in one expression (R88 to R90). -/
theorem anchor_eq (rp : ReadPoint) (k m c n : Nat) : anchor rp k m c n =
    if rp.k < k then rp
    else if m = 0 ∨ k + m ≤ rp.k then ⟨rp.story, rp.k + c - m, rp.o, rp.frac⟩
    else ⟨rp.story, min k n, 0, 0⟩ := by
  unfold anchor
  by_cases hlt : rp.k < k
  · rw [if_pos hlt, if_pos hlt]
  · rw [if_neg hlt, if_neg hlt]
    by_cases hpast : k + m ≤ rp.k ∨ m = 0
    · rw [if_pos hpast, if_pos hpast.symm]
    · rw [if_neg hpast, if_neg (mt Or.symm hpast)]
      by_cases hk : k ≤ n
      · rw [if_pos hk, Nat.min_eq_left hk]
      · rw [if_neg hk, Nat.min_eq_right (Nat.le_of_not_le hk)]
        split
        · rfl
        · rw [show n = 0 by omega]

/-- A splice notice does not reach a channel that is not inside the story. -/
theorem spliceNoticeAt_outside {c : ChannelId} {s : State} {id k m added : Nat} {st : Story} (hst : s.story? id = some st)
    (h : ∀ rp, (s.channel c).readPoint = some rp → ¬(rp.story = id ∧ st.opens c = true)) :
    spliceNoticeAt c id k m added s = s := by
  unfold spliceNoticeAt
  split
  · rename_i rp st' hrp hst'
    obtain rfl : st = st' := Option.some_inj.mp (hst.symm.trans hst')
    exact if_neg (h rp hrp)
  · rfl

theorem spliceNoticeAt_other {c d : ChannelId} (hd : d ≠ c) (s : State) (id k m added : Nat) :
    (spliceNoticeAt c id k m added s).channel d = s.channel d := by
  unfold spliceNoticeAt
  split
  · split
    · dsimp only
      split
      · rw [recompute_other hd, State.modChannel_other _ hd, State.place_other s hd]
      · rw [State.place_other s hd]
    · rfl
  · rfl

/-- What a splice notice makes of a channel inside the story. -/
theorem spliceNoticeAt_inside {c : ChannelId} {s : State} {id k m added : Nat} {st : Story} {rp : ReadPoint}
    (hst : s.story? id = some st) (hrp : (s.channel c).readPoint = some rp) (hid : rp.story = id)
    (hopen : st.opens c = true) :
    let t := spliceNoticeAt c id k m added s
    let e := (s.channel c).endFlag && decide (anchor rp k m added st.n = st.lastPoint s.heights)
    t.channel c = { s.channel c with
      readPoint := some (anchor rp k m added st.n)
      endFlag := e
      target := if e = (s.channel c).endFlag then (s.channel c).target else targetFor t c } := by
  unfold spliceNoticeAt
  simp only [hrp, hst]
  rw [if_pos ⟨hid, hopen⟩]
  split
  · rename_i h
    obtain ⟨hend, hne⟩ := h
    rw [targetFor_recompute, recompute_same, State.modChannel_same, State.place_same]
    simp [hend, hne]
  · rename_i h
    have he : ((s.channel c).endFlag && decide (anchor rp k m added st.n = st.lastPoint s.heights))
        = (s.channel c).endFlag := by
      cases hend : (s.channel c).endFlag with
      | false => rfl
      | true => simpa [hend] using h
    rw [State.place_same, he]
    simp

theorem spliceNoticeAt_frame (c : ChannelId) (s : State) (id k m added : Nat) :
    (spliceNoticeAt c id k m added s).stories = s.stories ∧ (spliceNoticeAt c id k m added s).heights = s.heights
      ∧ (spliceNoticeAt c id k m added s).stations = s.stations
      ∧ ∀ d, (spliceNoticeAt c id k m added s).arbiter d = s.arbiter d := by
  rw [channelsOnly_spliceNoticeAt c id k m added s]
  exact ⟨rfl, rfl, rfl, fun d => by cases d <;> rfl⟩

/-- A channel after both splice notices is the one its own notice makes. -/
theorem spliceNotices_channel (c : ChannelId) (s : State) (id k m added : Nat) :
    let t := spliceNoticeAt .b id k m added (spliceNoticeAt .a id k m added s)
    ∃ u : State, u.channel c = s.channel c ∧ u.stories = s.stories ∧ u.heights = s.heights
      ∧ t.channel c = (spliceNoticeAt c id k m added u).channel c
      ∧ targetFor t c = targetFor (spliceNoticeAt c id k m added u) c := by
  obtain ⟨ha1, ha2, ha3, ha4⟩ := spliceNoticeAt_frame .a s id k m added
  obtain ⟨-, -, hb3, hb4⟩ := spliceNoticeAt_frame .b (spliceNoticeAt .a id k m added s) id k m added
  cases c with
  | a =>
    have hch := spliceNoticeAt_other (c := .b) (d := .a) (by decide) (spliceNoticeAt .a id k m added s) id k m added
    exact ⟨s, rfl, rfl, rfl, hch, targetFor_congr hch (hb4 .a) hb3⟩
  | b =>
    exact ⟨spliceNoticeAt .a id k m added s,
      spliceNoticeAt_other (c := .a) (d := .b) (by decide) s id k m added, ha1, ha2, rfl, rfl⟩

/-! ## The new lines (R22, R23, R177) -/

theorem newLines_getElem? {new : List RawLine} : ∀ {ls : List Line}, newLines new = some ls →
    ∀ {i : Nat} {r : RawLine} {l : Line}, new[i]? = some r → ls[i]? = some l → newLine r = some l := by
  induction new with
  | nil => intro ls _ i r l hr; simp at hr
  | cons x xs ih =>
    intro ls h i r l hr hl
    obtain ⟨y, ys, hy, hys, rfl⟩ := newLines_cons_eq_some h
    cases i with
    | zero =>
      simp only [List.getElem?_cons_zero, Option.some_inj] at hr hl
      rw [← hr, ← hl, hy]
    | succ i =>
      simp only [List.getElem?_cons_succ] at hr hl
      exact ih hys hr hl

theorem classOf_eq (attr : Byte) : classOf attr = match attr.toNat / 32 % 4 with
    | 0 => .small
    | 1 => .standard
    | 2 => .large
    | _ => .spacer := by
  have h6 : attr.getLsbD 6 = decide (attr.toNat / 64 % 2 = 1) := Nat.testBit_eq_decide_div_mod_eq
  have h5 : attr.getLsbD 5 = decide (attr.toNat / 32 % 2 = 1) := Nat.testBit_eq_decide_div_mod_eq
  have hlt : attr.toNat / 32 % 4 < 4 := Nat.mod_lt _ (by decide)
  unfold classOf
  rw [h6, h5]
  match hq : attr.toNat / 32 % 4, hlt with
  | 0, _ => rw [decide_eq_false (by omega), decide_eq_false (by omega)] <;> rfl
  | 1, _ => rw [decide_eq_false (by omega), decide_eq_true (by omega)] <;> rfl
  | 2, _ => rw [decide_eq_true (by omega), decide_eq_false (by omega)] <;> rfl
  | 3, _ => rw [decide_eq_true (by omega), decide_eq_true (by omega)] <;> rfl

/-- The record a new line is written to (R22, R23, R34, R177). -/
theorem newLine_fields {r : RawLine} {l : Line} (h : newLine r = some l) : l.text = r.text.map substitute
    ∧ l.fired = false ∧ l.cue.val = r.attr.toNat % 8 ∧ (l.kind = .direction ↔ r.attr.getLsbD 7 = true)
    ∧ l.cls = classOf r.attr := by
  unfold newLine at h
  split at h
  · cases h
  · split at h
    · cases h
    · rename_i cue hcue
      cases h
      refine ⟨rfl, rfl, ?_, ?_, rfl⟩
      · unfold cueOf at hcue
        split at hcue
        · cases hcue
          rfl
        · cases hcue
      · cases r.attr.getLsbD 7 <;> simp

/-! ## The accepted splice (R34) -/

theorem spliceState_frame (id k m : Nat) (st : Story) (ls : List Line) (s : State) : spliceState id k m st ls s =
    { s with
      stories := s.stories.map (fun x => if x.id = id then st.spliced s.heights k m ls else x)
      freeLines := s.freeLines + m - ls.length
      channelA := (spliceState id k m st ls s).channelA, channelB := (spliceState id k m st ls s).channelB } := by
  have hb := channelsOnly_spliceNoticeAt .b id k m ls.length (spliceNoticeAt .a id k m ls.length
    { s.modStory id (fun _ => st.spliced s.heights k m ls) with freeLines := s.freeLines + m - ls.length })
  have ha := channelsOnly_spliceNoticeAt .a id k m ls.length
    { s.modStory id (fun _ => st.spliced s.heights k m ls) with freeLines := s.freeLines + m - ls.length }
  unfold spliceState
  rw [hb, ha]
  rfl

/-- The channels after an accepted splice (R59, R87 to R91). -/
theorem spliceState_channel {s : State} {id k m : Nat} {st : Story} (hst : s.story? id = some st) (ls : List Line)
    (c : ChannelId) : let t := spliceState id k m st ls s
    let st' := st.spliced s.heights k m ls
    ((∀ rp, (s.channel c).readPoint = some rp → ¬(rp.story = id ∧ st.opens c = true)) → t.channel c = s.channel c)
    ∧ (∀ rp, (s.channel c).readPoint = some rp → rp.story = id → st.opens c = true →
        let e := (s.channel c).endFlag && decide (anchor rp k m ls.length st'.n = st'.lastPoint s.heights)
        t.channel c = { s.channel c with
          readPoint := some (anchor rp k m ls.length st'.n)
          endFlag := e
          target := if e = (s.channel c).endFlag then (s.channel c).target else targetFor t c }) := by
  have hid := State.story?_id hst
  obtain ⟨u, hch, hstories, hheights, ht, htarget⟩ := spliceNotices_channel c
    { s.modStory id (fun _ => st.spliced s.heights k m ls) with freeLines := s.freeLines + m - ls.length } id k m ls.length
  have hch' : u.channel c = s.channel c := hch.trans (by cases c <;> rfl)
  have hust : u.story? id = some (st.spliced s.heights k m ls) := by
    rw [State.story?, hstories]
    exact State.story?_modStory_of_id hst fun _ _ => hid
  have hopens : (st.spliced s.heights k m ls).opens c = st.opens c := by cases c <;> rfl
  dsimp only
  refine ⟨fun h => ?_, fun rp hrp hrpid hopen => ?_⟩
  · refine ht.trans ?_
    rw [spliceNoticeAt_outside hust (by rw [hch', hopens]; exact h), hch']
  · refine ht.trans ?_
    have hin := spliceNoticeAt_inside (k := k) (m := m) (added := ls.length) hust (by rw [hch', hrp]) hrpid (hopens.trans hopen)
    dsimp only at hin
    rw [hch', ← htarget, hheights] at hin
    exact hin

theorem heightAt_eq {st : Story} {h : Heights} {k : Nat} {l : Line} (hk : 1 ≤ k) (hl : st.lines[k - 1]? = some l) :
    st.heightAt h k = l.height h := by
  simp only [Story.heightAt, hl]
  rw [if_neg (by omega)]

theorem height_eq (h : Heights) (l : Line) : l.height h = match l.cls with
    | .small => h.small
    | .standard => h.standard
    | .large => h.large
    | .spacer => h.spacer := by
  unfold Line.height Heights.of
  cases l.cls <;> rfl

/-- Sections 2.5, 2.1, 2.3, 3.1, 5.2, 5.3 and 3.5. Settles O20. -/
theorem storySpliceReplacesTheLines : Obligations.StorySpliceReplacesTheLines := by
  refine ⟨fun id k m new ls st s hf ha hs hst hargs hls hair hlock hlong hpool hga hgb => ?spliced, fun b => ?codes,
    fun h st => ?heights⟩
  case spliced =>
    have hlen := length_newLines hls
    have hrange : ¬spliceArgsOk st.n k m new.length = false := by simp [hargs]
    rw [spliceArgsOk_eq_false_iff] at hrange
    have hlines := length_spliceLines (ls := st.lines) (new := ls) (k := k) (m := m) (by omega)
      (by unfold Story.n at hrange; omega)
    rw [exec_storySplice hf ha hs, cmdStorySplice_good hst hargs hls, if_neg hair, if_neg (Classical.not_not.mpr hlock),
      if_neg (Nat.not_lt.mpr hlong), if_neg (Nat.not_lt.mpr hpool), hga, hgb, if_neg (by simp), conclude_okay]
    have hframe := spliceState_frame id k m st ls s
    refine ⟨_, st.spliced s.heights k m ls, rfl, rfl, rfl, ?_, rfl, fun i r l hr hl => ?_, ?_, ?_, ?_, fun c hout => ?_,
      fun c rp hrp hrpid hopen => ?_, ?_⟩
    · rw [← hlen]
      exact hlines
    · obtain ⟨h1, h2, h3, h4, h5⟩ := newLine_fields (newLines_getElem? hls hr hl)
      exact ⟨h1, h2, h3, h4, h5.trans (classOf_eq r.attr)⟩
    · rw [State.respond_stories, hframe]
    · rw [State.respond_freeLines, hframe]
      show s.freeLines + m - ls.length + new.length = s.freeLines + m
      omega
    · rw [State.respond_link, hframe]
      rfl
    · rw [State.respond_channel]
      exact (spliceState_channel hst ls c).1 hout
    · have hch := (spliceState_channel (k := k) (m := m) hst ls c).2 rp hrp hrpid hopen
      rw [State.respond_channel, targetFor_respond, hch]
      rw [anchor_eq, hrpid, hlen]
      exact ⟨rfl, by simp, rfl⟩
    · unfold State.respond
      rw [hframe]
  case codes =>
    have hb := byte_toNat_le b
    refine ⟨fun hacc => ?_, fun hrej => ?_⟩
    · refine ⟨if_pos (by omega), ?_⟩
      simp only [isSubstituted, Bool.or_eq_false_iff, Bool.and_eq_false_iff, decide_eq_false_iff_not]
      omega
    · refine ⟨if_neg (by omega), ?_⟩
      simp only [isSubstituted, Bool.or_eq_true, Bool.and_eq_true, decide_eq_true_eq]
      omega
  case heights =>
    have hsum (ls : List Line) : linesHeight h ls = (ls.map (fun l => match l.cls with
        | .small => h.small
        | .standard => h.standard
        | .large => h.large
        | .spacer => h.spacer)).sum := by
      unfold linesHeight
      rw [List.map_congr_left fun l _ => height_eq h l]
    refine ⟨fun ls => ⟨hsum ls, ?_⟩, rfl, fun k l hk hl => ?_, fun o => rfl, fun k o hk => ⟨?_, ?_⟩, rfl⟩
    · exact congrArg (h.slugBand + ·) (hsum ls)
    · exact (heightAt_eq hk hl).trans (height_eq h l)
    · exact congrArg (h.slugBand + ·) (hsum _)
    · rw [Story.rowOf, if_neg (by omega)]

/-! ## STORY CHECK -/

theorem exec_storyCheck {id : Nat} (hid : id ≤ 65535) {s : State} (hs : Ready s) :
    exec (.storyCheck (be16 id)) s = .next (conclude 0x1B (cmdStoryCheck id s)) :=
  exec_rowOf (cmd := .storyCheck id) hid (by simp [Command.args, be16, maxArgs]) hs

theorem exec_storyCheckCompletion (s : State) : exec .storyCheckCompletion s = .next (finishCheck s) := rfl

/-- Sections 2.7 and 12.2. Settles O22. -/
theorem storyCheckAnswersTheCrc : Obligations.StoryCheckAnswersTheCrc := by
  intro id s hid
  rw [exec_storyCheckCompletion]
  refine ⟨fun hs hgone => ?absent, fun hs hlive => ?taken, fun st hx hst => ?completed, fun st hx hst => ?gone,
    fun hx => ?idle⟩
  case absent => rw [exec_storyCheck hid hs, cmdStoryCheck, State.story?_eq_none hgone, conclude_refuse]
  case taken =>
    obtain ⟨st, hst⟩ := story?_of_isLive hlive
    rw [exec_storyCheck hid hs]
    simp only [cmdStoryCheck, hst, conclude_running]
    rfl
  case completed =>
    have hsequence : st.checkSequence = u8 st.slug.length :: st.slug ++ st.lines.flatMap (fun l =>
        u8 (l.kind.code * 128 + l.cls.code * 32 + l.cue.val) :: u8 l.text.length :: l.text) := by
      simp only [Story.checkSequence, textBytes]
      congr 2
    simp only [finishCheck, hx, completeCheck, hst, hsequence] <;> rfl
  case gone => rw [retire_link_live hst, if_pos hx]
  case idle =>
    unfold finishCheck
    split
    · rename_i x hx'
      exact absurd hx' (hx x)
    · rfl

end Sys2Proof.Machine
end

section
/-! PROOF. The receivers of the station and head ports (R123, R126, R156), the answers to FETCH (R157 to R159) and the
head transmitter (R154, R161). -/

namespace Sys2Proof.Machine

/-! ## One port changed -/

/-- An update of one station is a step that touches that station only. -/
theorem modStation_only (s : State) (p : Fin 4) (f : Station → Station) {x : Station} (hx : f (s.station p) = x) :
    ∃ t, (Host.Outcome.next (s.modStation p f) : Host.Outcome State Fault Refusal) = .next t ∧ t.station p = x
      ∧ (∀ q, q ≠ p → t.station q = s.station q) ∧ t = { s with stations := t.stations } :=
  ⟨_, rfl, (State.modStation_same s p f).trans hx, fun _ hq => State.modStation_other s hq f, rfl⟩

/-- An update of one head port is a step that touches that port only. -/
theorem modHead_only (s : State) (p : Fin 4) (f : Head → Head) {x : Head} (hx : f (s.head p) = x) :
    ∃ t, (Host.Outcome.next (s.modHead p f) : Host.Outcome State Fault Refusal) = .next t ∧ t.head p = x
      ∧ (∀ q, q ≠ p → t.head q = s.head q) ∧ t = { s with heads := t.heads } :=
  ⟨_, rfl, (State.modHead_same s p f).trans hx, fun _ hq => State.modHead_other s hq f, rfl⟩

/-! ## Faults at the ports (R123, R156) -/

theorem exec_stationFramingFault (p : Fin 4) (c : LineChar) (s : State) :
    exec (.stationFramingFault p c) s = .next (stationChar p c s) := rfl

theorem exec_stationGapExpiry (p : Fin 4) (s : State) : exec (.stationGapExpiry p) s = .next (stationGap p s) := rfl

theorem exec_headFramingFault (p : Fin 4) (c : LineChar) (s : State) :
    exec (.headFramingFault p c) s = .next (headChar p c s) := rfl

theorem exec_headGapExpiry (p : Fin 4) (s : State) : exec (.headGapExpiry p) s = .next (headGap p s) := rfl

/-- The record of a station whose frame is abandoned as a framing fault. -/
def Station.abandoned (st : Station) : Station :=
  { st with rx := .hunting, gap := none, framingFlag := st.framingFlag || decide (st.role ≠ .off) }

theorem stationChar_fault {s : State} (hs : s.started = true) {p : Fin 4} {c : LineChar}
    (hf : (s.station p).rx.feed c = (.hunting, .fault)) : stationChar p c s = s.modStation p Station.abandoned := by
  rw [stationChar_eq hs p c hf]
  exact State.modStation_modStation s p _ _

theorem stationGap_abandons {s : State} {p : Fin 4} (h : (s.station p).rx ≠ .hunting) :
    stationGap p s = s.modStation p Station.abandoned := by
  rw [stationGap, if_neg h]
  exact State.modStation_modStation s p _ _

theorem headChar_fault {s : State} (hs : s.started = true) {p : Fin 4} {c : LineChar}
    (hf : (s.head p).rx.feed c = (.hunting, .fault)) :
    headChar p c s = s.modHead p (fun hd => { hd with rx := .hunting, gap := none }) := headChar_eq hs p c hf

/-- Sections 8.2 and 10.5. Settles O46. -/
theorem portFaultsAbandonTheFrame : Obligations.PortFaultsAbandonTheFrame := by
  intro p b s hs
  have hlength {rx : PortRx} (hr : rx = .marker) (hb : b.toNat = 0 ∨ 16 < b.toNat) :
      rx.feed (goodChar b) = (.hunting, .fault) := by
    rw [hr]
    exact PortRx.feed_bad_length hb
  dsimp only
  refine ⟨?stop, fun hr hb => ?length, fun hr => ?gap, fun hr => ?hunting, ?head_stop, fun hr hb => ?head_length,
    ?head_gap⟩
  case stop =>
    rw [exec_stationFramingFault, stationChar_fault hs (PortRx.feed_stop _ b)]
    exact modStation_only s p _ rfl
  case length =>
    rw [exec_stationFramingFault, stationChar_fault hs (hlength hr hb)]
    exact modStation_only s p _ rfl
  case gap =>
    rw [exec_stationGapExpiry, stationGap_abandons hr]
    exact modStation_only s p _ rfl
  case hunting => rw [exec_stationGapExpiry, stationGap, if_pos hr]
  case head_stop =>
    rw [exec_headFramingFault, headChar_fault hs (PortRx.feed_stop _ b)]
    exact modHead_only s p _ rfl
  case head_length =>
    rw [exec_headFramingFault, headChar_fault hs (hlength hr hb)]
    exact modHead_only s p _ rfl
  case head_gap => exact modHead_only s p _ rfl

/-! ## The ANSWER to a refused REPORT (R126, R130, R131) -/

theorem exec_stationReport {s : State} {p : Fin 4} (h : StationReceives s p) {body : List Byte} (h1 : 1 ≤ body.length)
    (h2 : body.length ≤ 16) (check : Byte) : exec (.stationReport p (0xA5 :: u8 body.length :: (body ++ [check]))) s
      = .next (completeReport p body.length body check s) := by
  obtain ⟨hs, hr, hg⟩ := h
  exact congrArg _ (stationChars_frame hs hr hg h1 h2 check)

theorem Station.offer_eq (st : Station) (a : Answer) : st.offer a =
    if st.sending = none then { st with sending := some a } else { st with waitingAnswer := some a } := by
  unfold Station.offer
  cases st.sending <;> simp

/-- The tally of a station looks at its binding, its overridden mark and the arbitration records only. -/
theorem tally_modStation (s : State) (p : Fin 4) {f : Station → Station} (hc : (f (s.station p)).channel = (s.station p).channel)
    (ho : (f (s.station p)).overridden = (s.station p).overridden) : (s.modStation p f).tally p = s.tally p := by
  simp only [State.tally, State.modStation_same, State.modStation_arbiter, hc, ho]

/-- The ANSWER of a station whose binding and mark are as they were, formed for its changed record. -/
theorem answer_modStation (p : Fin 4) (status : AnswerStatus) (s : State) {f : Station → Station}
    (hc : (f (s.station p)).channel = (s.station p).channel)
    (ho : (f (s.station p)).overridden = (s.station p).overridden) :
    answer p status (s.modStation p f) = s.modStation p (fun st => (f st).offer (formReply p status s)) := by
  have hreply : formReply p status (s.modStation p f) = formReply p status s := by
    simp only [formReply, tally_modStation s p hc ho, State.modStation_same, State.modStation_channel, hc]
  rw [answer, hreply, State.modStation_modStation]

theorem checkPasses_eq_false_iff (bs : List Byte) (check : Byte) :
    checkPasses bs check = false ↔ endAroundSum (bs ++ [check]) ≠ 0xFF#8 := by
  simp [checkPasses]

/-- A body that is not three bytes long, or whose button byte has a reserved bit set, is a field fault (R125). -/
theorem toLevels_eq_none : ∀ {body : List Byte},
    (∀ x y z : Byte, body = [x, y, z] → z.getLsbD 6 = true ∨ z.getLsbD 7 = true) → toLevels body = none
  | [], _ => rfl
  | [_], _ => rfl
  | [_, _], _ => rfl
  | [x, y, z], h => if_pos (by simpa using h x y z rfl)
  | _ :: _ :: _ :: _ :: _, _ => rfl

/-- Sections 8.2, 8.3 and 8.4. Settles O45. -/
theorem aRefusedReportOnlySetsItsFlag : Obligations.ARefusedReportOnlySetsItsFlag := by
  intro p body check s h1 h2 hs
  have hoffer (status : AnswerStatus) (st : Station) (hc : st.channel = (s.station p).channel) :
      st.offer (formReply p status s) =
        (let a : Answer := ⟨status, s.tally p, (s.channel st.channel).speedBar, (s.channel st.channel).paused⟩
         if st.sending = none then { st with sending := some a } else { st with waitingAnswer := some a }) := by
    rw [Station.offer_eq, formReply, hc]
  dsimp only
  rw [exec_stationReport hs h1 h2]
  refine ⟨fun hoff => ?off, fun hrole hcheck => ?check, fun hrole hcheck hfield => ?field⟩
  case off =>
    rw [completeReport, if_pos hoff]
    exact modStation_only s p _ (hoffer .rejected _ rfl)
  case check =>
    rw [completeReport, if_neg hrole, if_pos ((checkPasses_eq_false_iff _ _).mpr hcheck), answer_modStation p _ s rfl rfl]
    exact modStation_only s p _ (hoffer .checkError { s.station p with checkFlag := true } rfl)
  case field =>
    rw [completeReport, if_neg hrole, if_neg (mt (checkPasses_eq_false_iff _ _).mp (Classical.not_not.mpr hcheck)),
      toLevels_eq_none hfield]
    dsimp only
    rw [answer_modStation p _ s rfl rfl]
    exact modStation_only s p _ (hoffer .rejected { s.station p with fieldFlag := true } rfl)

/-! ## The head transmitter (R161) -/

/-- Starting a frame takes no request. -/
theorem Head.start_requests (h : Head) : h.start.requests = h.requests := by
  have hanswer : h.startAnswer.requests = h.requests := by
    unfold Head.startAnswer
    split <;> rfl
  have hposition : h.startPosition.requests = h.requests := by
    unfold Head.startPosition
    split <;> rfl
  unfold Head.start
  split
  · rfl
  · split
    · split
      · exact hposition
      · exact hanswer
    · split
      · exact hanswer
      · exact hposition

/-- Without a waiting request a port only starts its transmitter. -/
theorem Head.pump_of_no_requests (s : State) {h : Head} (hr : h.requests = []) : h.pump s = h.start := by
  have hstart : h.start.requests = [] := h.start_requests.trans hr
  rw [Head.pump, Head.takeAll_eq_self (absurd hr), Head.takeAll_eq_self (absurd hstart)]

theorem Head.start_nothing {h : Head} (ha : h.answers = []) (hp : h.waitingPos = none) (hg : h.pendingGeom = none) :
    h.start = h := by
  unfold Head.start Head.startPosition
  simp [ha, hp, hg]

/-- A GEOMETRY frame goes next when no answer waits or the last kind sent was the answer. -/
theorem Head.start_geometry {h : Head} {g : Heights} (hs : h.sending = none) (hg : h.pendingGeom = some g)
    (hk : h.answers = [] ∨ h.lastKind = .answer) :
    h.start = { h with sending := some (.geometry g), pendingGeom := none, lastKind := .position } := by
  unfold Head.start Head.startPosition Head.positionKindWaits
  rcases hk with hk | hk
  · simp [hs, hg, hk]
  · cases h.answers <;> simp [hs, hg, hk]

/-- A position frame goes next under the same condition, when no GEOMETRY frame is pending. -/
theorem Head.start_position {h : Head} {f : PosFrame} (hs : h.sending = none) (hg : h.pendingGeom = none)
    (hp : h.waitingPos = some f) (hk : h.answers = [] ∨ h.lastKind = .answer) :
    h.start = { h with sending := some (.position f), waitingPos := none, lastKind := .position } := by
  unfold Head.start Head.startPosition Head.positionKindWaits
  rcases hk with hk | hk
  · simp [hs, hg, hp, hk]
  · cases h.answers <;> simp [hs, hg, hp, hk]

/-- The oldest answer goes next when nothing of the position kind waits or the last kind sent was the position. -/
theorem Head.start_answer {h : Head} {a : FetchAnswer} {rest : List FetchAnswer} (hs : h.sending = none)
    (ha : h.answers = a :: rest) (hk : (h.waitingPos = none ∧ h.pendingGeom = none) ∨ h.lastKind = .position) :
    h.start = { h with sending := some (.answer a), answers := rest, lastKind := .answer } := by
  unfold Head.start Head.startAnswer Head.positionKindWaits
  rcases hk with ⟨hp, hg⟩ | hk
  · simp [hs, ha, hp, hg]
  · simp [hs, ha, hk]

/-- A request that finds room for its answer is taken (R157). -/
theorem Head.takeAll_cons (s : State) {h : Head} {r : Request} {rs : List Request} (hr : h.requests = r :: rs)
    (ha : h.answers.length < 2) (hrs : rs ≠ [] → h.answers.length = 1) :
    h.takeAll s = { h with requests := rs, answers := h.answers ++ [formAnswer s r] } := by
  have hstop : takeRequests s rs (h.answers ++ [formAnswer s r]) = (rs, h.answers ++ [formAnswer s r]) := by
    cases rs with
    | nil => rfl
    | cons x xs => simp [takeRequests, hrs (List.cons_ne_nil x xs)]
  simp [Head.takeAll, hr, takeRequests, ha, hstop]

/-! ## What an answer says (R158, R159) -/

/-- The answer that a port forms is the one that the story as it stands asks for. -/
theorem formAnswer_isAnswer (s : State) (r : Request) : IsAnswer s r (formAnswer s r) := by
  unfold formAnswer
  refine ⟨fun hclear => if_pos hclear, fun hclear hgone => ?_, fun st hclear hst => ?_⟩
  · rw [if_neg (by simp [hclear]), State.story?_eq_none hgone]
  · rw [if_neg (by simp [hclear]), hst]
    have hkept (hgen : r.generation = none ∨ r.generation = some st.generation) :
        ¬(r.generation ≠ none ∧ r.generation ≠ some st.generation) :=
      fun h => hgen.elim h.1 h.2
    dsimp only
    refine ⟨fun ⟨g, hg, hne⟩ => if_pos (by simp [hg, hne]), fun hgen hfirst => ?_, fun hgen hfirst => ?_⟩
    · rw [if_neg (hkept hgen), if_pos (show st.n < r.first from hfirst)]
      rfl
    · have hlen := st.length_recsFrom r.first r.count
      rw [if_neg (hkept hgen), if_neg (show ¬st.n < r.first from Nat.not_lt.mpr hfirst)]
      refine ⟨_, rfl, ?_, fun i hi => st.recsFrom_getElem? r.first (by omega)⟩
      rw [hlen, ← Nat.sub_add_comm hfirst, Story.n]

/-! ## FETCH -/

theorem exec_fetch {s : State} {h : Fin 4} (hs : HeadReceives s h) {body : List Byte} (h1 : 1 ≤ body.length)
    (h2 : body.length ≤ 16) (check : Byte) : exec (.fetch h (0xA5 :: u8 body.length :: (body ++ [check]))) s
      = .next (completeFetch h body.length body check s) := by
  obtain ⟨hst, hr, hg⟩ := hs
  exact congrArg _ (headChars_frame hst hr hg h1 h2 check)

theorem toRequest_fetchBody {story first count : Nat} {gen : Option Nat} (hs : story ≤ 65535) (hf : first ≤ 255)
    (hc : count ≤ 255) (hg : OptAtMost 255 gen) :
    toRequest (fetchBody story gen first count) = some ⟨story, gen, first, max 1 (min 8 count)⟩ := by
  cases gen with
  | none => simp [fetchBody, be16, toRequest, of16_be16 hs, u8_toNat_le hf, u8_toNat_le hc, boolByte, clampNat]
  | some g =>
    have hg' : g ≤ 255 := hg g rfl
    simp [fetchBody, be16, toRequest, of16_be16 hs, u8_toNat_le hf, u8_toNat_le hc, u8_toNat_le hg', boolByte, clampNat]

theorem toRequest_eq_none : ∀ {body : List Byte}, body.length ≠ 6 → toRequest body = none
  | [], _ => rfl
  | [_], _ => rfl
  | [_, _], _ => rfl
  | [_, _, _], _ => rfl
  | [_, _, _, _], _ => rfl
  | [_, _, _, _, _], _ => rfl
  | [_, _, _, _, _, _], h => absurd rfl h
  | _ :: _ :: _ :: _ :: _ :: _ :: _ :: _, _ => rfl

/-- The frame of a FETCH brings its request to the port. -/
theorem exec_fetch_request {s : State} {h : Fin 4} (hs : HeadReceives s h) {story first count : Nat} {gen : Option Nat}
    (hstory : story ≤ 65535) (hfirst : first ≤ 255) (hcount : count ≤ 255) (hgen : OptAtMost 255 gen) :
    exec (.fetch h (portFrame (fetchBody story gen first count))) s
      = .next (s.modHead h (acceptFetch s ⟨story, gen, first, max 1 (min 8 count)⟩)) := by
  have hframe : portFrame (fetchBody story gen first count) = 0xA5 :: u8 (fetchBody story gen first count).length ::
      (fetchBody story gen first count ++ [checkByte (u8 (fetchBody story gen first count).length
        :: fetchBody story gen first count)]) := rfl
  have hlen : (fetchBody story gen first count).length = 6 := rfl
  rw [hframe, exec_fetch hs (by omega) (by omega), completeFetch, checkPasses_checkByte, if_neg (by simp),
    toRequest_fetchBody hstory hfirst hcount hgen]

/-- A request at an attached port with room joins the requests. -/
theorem acceptFetch_joins (s : State) (r : Request) {h : Head} (hatt : h.attachment ≠ none) (hroom : h.requests.length < 2) :
    acceptFetch s r h = Head.pump s { h with requests := h.requests ++ [r] } := by
  rw [acceptFetch, if_neg hatt, if_pos hroom]

/-- A request that finds room for its answer at a busy port is answered, and the answer waits. -/
theorem acceptFetch_busy (s : State) (r : Request) {h : Head} (hatt : h.attachment ≠ none) (hr : h.requests = [])
    (hroom : h.answers.length < 2) (hsend : h.sending ≠ none) :
    acceptFetch s r h = { h with answers := h.answers ++ [formAnswer s r] } := by
  have htaken : Head.takeAll s { h with requests := [] ++ [r] } = { h with answers := h.answers ++ [formAnswer s r] } :=
    (Head.takeAll_cons s (h := { h with requests := [] ++ [r] }) rfl hroom (absurd rfl)).trans (by rw [← hr])
  rw [acceptFetch_joins s r hatt (by simp [hr]), hr, Head.pump, htaken,
    Head.start_busy (h := { h with answers := h.answers ++ [formAnswer s r] }) hsend,
    Head.takeAll_eq_self (h := { h with answers := h.answers ++ [formAnswer s r] }) (absurd hr), ← hr]

/-- A request at an idle port is answered at once. -/
theorem acceptFetch_idle (s : State) (r : Request) {h : Head} (hatt : h.attachment ≠ none) (hr : h.requests = [])
    (ha : h.answers = []) (hsend : h.sending = none) (hp : h.waitingPos = none) (hg : h.pendingGeom = none) :
    acceptFetch s r h = { h with sending := some (.answer (formAnswer s r)), lastKind := .answer } := by
  obtain ⟨att, requests, answers, pos, geom, kind, overrun, sending, rx, gap⟩ := h
  subst hr ha hsend hp hg
  exact (acceptFetch_joins s r hatt Nat.zero_lt_two).trans rfl

/-- Sections 10.1, 10.5 and 10.7. Settles O51. -/
theorem aFetchIsAnsweredFromTheStory : Obligations.AFetchIsAnsweredFromTheStory := by
  intro h story first count gen s hstory hfirst hcount hgen hs
  have hanswer := formAnswer_isAnswer s ⟨story, gen, first, max 1 (min 8 count)⟩
  dsimp only
  rw [exec_fetch_request hs hstory hfirst hcount hgen]
  refine ⟨fun hatt => ?detached, fun hatt hfull => ?overrun, fun hatt hroom hfull hsend => ?queued,
    fun hatt hr hroom hsend => ?answered, fun hatt hr ha hsend hpos hgeom => ?sent, fun body check h1 h2 hbad => ?bad⟩
  case detached => exact modHead_only s h _ (if_pos hatt)
  case overrun => exact modHead_only s h _ (by rw [acceptFetch, if_neg hatt, if_neg (by omega)])
  case queued =>
    exact modHead_only s h _ ((acceptFetch_joins s _ hatt hroom).trans (Head.pump_busy hsend fun _ => hfull))
  case answered => exact ⟨_, hanswer, modHead_only s h _ (acceptFetch_busy s _ hatt hr hroom hsend)⟩
  case sent => exact ⟨_, hanswer, modHead_only s h _ (acceptFetch_idle s _ hatt hr ha hsend hpos hgeom)⟩
  case bad =>
    rw [exec_fetch hs h1 h2, completeFetch]
    split
    · rfl
    · rename_i hpass
      rw [checkPasses_eq_false_iff, Classical.not_not] at hpass
      rw [toRequest_eq_none (hbad.resolve_left fun hne => hne hpass)]

/-! ## HEAD_TX_DONE -/

theorem exec_headTxDone (h : Fin 4) (s : State) : exec (.headTxDone h) s = .next (headSent h s) := rfl

/-- Sections 10.5 and 10.7. Settles O52. -/
theorem aHeadTransmitterTakesTurns : Obligations.AHeadTransmitterTakesTurns := by
  intro h s
  rw [exec_headTxDone, headSent]
  refine ⟨fun hidle => by rw [if_pos hidle], fun hsend hr => ?quiet, fun hsend hcons => ?waiting⟩
  all_goals rw [if_neg hsend]
  case quiet =>
    refine ⟨_, Head.start { s.head h with sending := none }, rfl, ?_, fun ha hp hg => Head.start_nothing ha hp hg,
      fun g hg hk => Head.start_geometry rfl hg hk, fun f hg hp hk => Head.start_position rfl hg hp hk,
      fun a rest ha hk => Head.start_answer rfl ha hk, fun q hq => State.modHead_other s hq _, rfl⟩
    exact (State.modHead_same s h _).trans (Head.pump_of_no_requests s hr)
  case waiting =>
    obtain ⟨hatt, hover, -⟩ := Head.pump_keeps s { s.head h with sending := none }
    refine ⟨_, Head.pump s { s.head h with sending := none }, rfl, State.modHead_same s h _, hcons.sent s, hover, hatt,
      fun r rs a b hr ha => ?_, fun q hq => State.modHead_other s hq _, rfl⟩
    have hfull : ({ s.head h with sending := none } : Head).takeAll s = { s.head h with sending := none } :=
      Head.takeAll_eq_self fun _ => by simp [ha]
    rw [Head.pump, hfull]
    refine ⟨fun hk => ⟨formAnswer s r, formAnswer_isAnswer s r, ?_⟩, fun hwait hk => ?_⟩
    · have htwo : rs.length ≤ 1 := by simpa [hr] using hcons.1
      have hnext : Head.start { s.head h with sending := none }
          = { s.head h with sending := some (.answer a), answers := [b], lastKind := .answer } :=
        Head.start_answer (h := { s.head h with sending := none }) rfl ha hk
      rw [hnext]
      exact Head.takeAll_cons s (h := { s.head h with sending := some (.answer a), answers := [b], lastKind := .answer })
        hr (by simp) fun _ => rfl
    · have hkeeps (x : Head) (hx : x.answers = (s.head h).answers) : x.takeAll s = x :=
        Head.takeAll_eq_self fun _ => by simp [hx, ha]
      have hgeometry (g : Heights) (hg : (s.head h).pendingGeom = some g) :
          (Head.start { s.head h with sending := none }).takeAll s
            = { s.head h with sending := some (.geometry g), pendingGeom := none, lastKind := .position } := by
        exact (congrArg (Head.takeAll s)
          (Head.start_geometry (h := { s.head h with sending := none }) rfl hg (.inr hk))).trans (hkeeps _ rfl)
      have hposition (f : PosFrame) (hg : (s.head h).pendingGeom = none) (hp : (s.head h).waitingPos = some f) :
          (Head.start { s.head h with sending := none }).takeAll s
            = { s.head h with sending := some (.position f), waitingPos := none, lastKind := .position } := by
        exact (congrArg (Head.takeAll s)
          (Head.start_position (h := { s.head h with sending := none }) rfl hg hp (.inr hk))).trans (hkeeps _ rfl)
      have hqueues : ((Head.start { s.head h with sending := none }).takeAll s).requests = (s.head h).requests
          ∧ ((Head.start { s.head h with sending := none }).takeAll s).answers = (s.head h).answers := by
        cases hg : (s.head h).pendingGeom with
        | some g => rw [hgeometry g hg]; exact ⟨rfl, rfl⟩
        | none =>
          cases hp : (s.head h).waitingPos with
          | some f => rw [hposition f hg hp]; exact ⟨rfl, rfl⟩
          | none => exact absurd hwait (by simp [hg, hp])
      exact ⟨hqueues.1, hqueues.2, hgeometry, hposition⟩

/-! ## Position frames (R51, R153, R154) -/

/-- What the handing of position frames makes of the head ports. -/
theorem handFrames_heads (c : ChannelId) (s : State) :
    (∀ h, (s.head h).attachment ≠ some c → (handFrames c s).head h = s.head h)
    ∧ (∀ h, (s.head h).attachment = some c → (s.head h).sending = none → (s.head h).answers = [] →
        (s.head h).requests = [] → (s.head h).pendingGeom = none → (handFrames c s).head h = { s.head h with
          sending := some (.position (positionFrame s c)), waitingPos := none, lastKind := .position })
    ∧ (∀ h, (s.head h).attachment = some c → (s.head h).sending ≠ none →
        ((handFrames c s).head h).waitingPos = some (positionFrame s c)
        ∧ ((handFrames c s).head h).sending = (s.head h).sending
        ∧ ((handFrames c s).head h).pendingGeom = (s.head h).pendingGeom
        ∧ (HeadConsistent (s.head h) →
            (handFrames c s).head h = { s.head h with waitingPos := some (positionFrame s c) })) := by
  have hhead (h : Fin 4) : (handFrames c s).head h
      = if (s.head h).attachment = some c then offerPosition s (positionFrame s c) (s.head h) else s.head h := by
    simp only [handFrames, State.head, Fin.getElem_fin, Vector.getElem_map]
    rfl
  refine ⟨fun h hatt => ?_, fun h hatt hsend ha hr hg => ?_, fun h hatt hsend => ?_⟩
  all_goals rw [hhead]
  · rw [if_neg hatt]
  · rw [if_pos hatt]
    exact (Head.pump_of_no_requests s (h := { s.head h with waitingPos := some (positionFrame s c) }) hr).trans
      (Head.start_position (h := { s.head h with waitingPos := some (positionFrame s c) }) hsend hg rfl (.inl ha))
  · rw [if_pos hatt]
    obtain ⟨h1, -, h3⟩ := Head.pump_sending (h := { s.head h with waitingPos := some (positionFrame s c) }) hsend s
    refine ⟨?_, h1, h3, fun hcons => offerPosition_busy hsend hcons.2.2.1⟩
    have hbusy : (({ s.head h with waitingPos := some (positionFrame s c) } : Head).takeAll s).start
        = ({ s.head h with waitingPos := some (positionFrame s c) } : Head).takeAll s := Head.start_busy hsend
    rw [offerPosition, Head.pump, hbusy]
    rfl

/-- The fields of a position frame (R153). -/
theorem positionFrame_place (s : State) (c : ChannelId) :
    ((s.channel c).readPoint = none → (positionFrame s c).story = 0 ∧ (positionFrame s c).generation = 0
      ∧ (positionFrame s c).k = 0 ∧ (positionFrame s c).o = 0 ∧ (positionFrame s c).frac = 0)
    ∧ (∀ rp st, (s.channel c).readPoint = some rp → s.story? rp.story = some st →
        (positionFrame s c).story = rp.story ∧ (positionFrame s c).generation = st.generation
        ∧ (positionFrame s c).k = rp.k ∧ (positionFrame s c).o = rp.o ∧ (positionFrame s c).frac = rp.frac) := by
  refine ⟨fun hrp => ?_, fun rp st hrp hst => ?_⟩
  · simp [positionFrame, hrp]
  · simp [positionFrame, hrp, hst]

/-- Sections 3.3, 10.3 and 10.7. Settles O41. -/
theorem aStepAtRestHandsPositionFrames : Obligations.AStepAtRestHandsPositionFrames := by
  intro c s
  have hexec : exec (.channelStepExpiry c) s = .next (channelStep c s) := rfl
  rw [hexec, channelStep]
  refine ⟨fun hstop => by rw [if_pos hstop], fun hrun hrest => ?_⟩
  rw [if_neg (by simp [hrun]), if_neg hrest]
  obtain ⟨hunplaced, hplaced⟩ := positionFrame_place s c
  obtain ⟨hother, hidle, hbusy⟩ := handFrames_heads c s
  refine ⟨_, positionFrame s c, rfl, rfl, rfl, rfl, rfl, rfl, rfl, rfl, rfl, hunplaced, hplaced, fun hn => ?_,
    fun p hp => ?_, hother, hidle, hbusy, rfl⟩
  · simp [positionFrame, State.ownerRole, hn]
  · simp [positionFrame, State.ownerRole, hp]

end Sys2Proof.Machine
end

section
/-! PROOF. GEOMETRY SET (R29, R31, R155) and TIMING READ (R103 to R109). -/

namespace Sys2Proof.Machine

/-! ## GEOMETRY SET -/

theorem exec_geometrySet {h : Heights} (hf : (Command.geometrySet h).fits) {s : State} (hs : Ready s) :
    exec (.geometrySet h.bytes) s = .next (conclude 0x60 (cmdGeometrySet h s)) :=
  exec_rowOf (cmd := .geometrySet h) hf (by simp [Command.args, Heights.bytes, maxArgs]) hs

/-- A story as the completion of the recompute leaves it (R31). -/
def Story.measured (st : Story) : Story := { st with g := st.pendingG.getD st.g, pendingG := none }

theorem measuredState_story? (h : Heights) (s : State) (id : Nat) :
    (measuredState h s).story? id = (s.story? id).map Story.measured := by
  unfold State.story? measuredState
  rw [List.find?_map]
  rfl

theorem geometryAdjust_other {c d : ChannelId} (hd : d ≠ c) (s : State) : (geometryAdjust c s).channel d = s.channel d := by
  unfold geometryAdjust
  dsimp only
  split
  · split
    · split
      · exact State.place_other s hd _
      · split
        · exact State.place_other s hd _
        · rfl
    · rfl
  · rfl

/-- A channel that is not PARKED, or is inside no story, takes no adjustment. -/
theorem geometryAdjust_idle {c : ChannelId} {s : State} (h : (s.channel c).state ≠ .parked ∨ s.currentStory c = none) :
    (geometryAdjust c s).channel c = s.channel c := by
  unfold geometryAdjust
  dsimp only
  split
  · rename_i rp st hrp hst
    rw [if_neg (h.resolve_right (by simp [hst]))]
  · rfl

/-- A PARKED channel keeps its read point within the heights. -/
theorem geometryAdjust_parked {c : ChannelId} {s : State} {rp : ReadPoint} {st : Story} (hp : (s.channel c).state = .parked)
    (hrp : (s.channel c).readPoint = some rp) (hst : s.story? rp.story = some st) :
    (geometryAdjust c s).channel c = { s.channel c with
      readPoint := some (if (s.channel c).endFlag then st.lastPoint s.heights
        else if st.heightAt s.heights rp.k ≤ rp.o then ⟨rp.story, rp.k, st.heightAt s.heights rp.k - 1, 0⟩ else rp) } := by
  have hcur : s.currentStory c = some st := by simp [State.currentStory, hrp, hst]
  unfold geometryAdjust
  simp only [hrp, hcur]
  rw [if_pos hp]
  split
  · exact State.place_same s c _
  · split
    · exact State.place_same s c _
    · rw [← hrp]

/-- The channels after the completion of the recompute: each one is adjusted by itself. -/
theorem geometryAdjusts_channel (c : ChannelId) (s : State) : ∃ u : State, u.channel c = s.channel c
    ∧ u.stories = s.stories ∧ u.heights = s.heights
    ∧ (geometryAdjust .b (geometryAdjust .a s)).channel c = (geometryAdjust c u).channel c := by
  cases c with
  | a => exact ⟨s, rfl, rfl, rfl, geometryAdjust_other (by decide) _⟩
  | b =>
    have ha := channelsOnly_geometryAdjust .a s
    exact ⟨geometryAdjust .a s, geometryAdjust_other (by decide) s, by rw [ha], by rw [ha], rfl⟩

/-- What the queueing of a GEOMETRY frame makes of the head ports (R155). -/
theorem queueGeometryAll_heads (g : Heights) (s : State) :
    (∀ x, (s.head x).attachment = none → (queueGeometryAll g s).head x = s.head x)
    ∧ (∀ x, (s.head x).attachment ≠ none → HeadConsistent (s.head x) → (s.head x).sending ≠ none →
        (queueGeometryAll g s).head x = { s.head x with waitingPos := none, pendingGeom := some g })
    ∧ (∀ x, (s.head x).attachment ≠ none → HeadConsistent (s.head x) → (s.head x).sending = none →
        (queueGeometryAll g s).head x = { s.head x with sending := some (.geometry g), lastKind := .position }) := by
  have hhead (x : Fin 4) : (queueGeometryAll g s).head x
      = if (s.head x).attachment ≠ none then queueGeometry s g (s.head x) else s.head x := by
    simp only [queueGeometryAll, State.head, Fin.getElem_fin, Vector.getElem_map]
    rfl
  refine ⟨fun x hatt => ?_, fun x hatt hcons hsend => ?_, fun x hatt hcons hsend => ?_⟩
  all_goals rw [hhead]
  · exact if_neg (Classical.not_not.mpr hatt)
  · rw [if_pos hatt, queueGeometry_busy hsend hcons.2.2.1]
  · obtain ⟨-, -, hfull, hempty, -⟩ := hcons
    obtain ⟨hanswers, hpos, hgeom⟩ := hempty hsend
    have hrequests : (s.head x).requests = [] := by
      refine Classical.byContradiction fun hne => ?_
      simpa [hanswers] using hfull hne
    rw [if_pos hatt, queueGeometry_idle hsend hanswers hrequests, ← hpos, ← hgeom]

/-- Sections 2.4 and 10.4. Settles O23. -/
theorem geometryChangesAtItsCompletion : Obligations.GeometryChangesAtItsCompletion := by
  refine ⟨fun h s hf hs => ⟨fun hlive => ?refused, fun ha hb => ?taken⟩, fun h s hx hp => ?completed,
    fun s hx => ?idle⟩
  case refused => rw [exec_geometrySet hf hs, cmdGeometrySet, if_pos hlive, conclude_refuse]
  case taken =>
    rw [exec_geometrySet hf hs, cmdGeometrySet, if_neg (not_or.mpr ⟨ha, hb⟩), conclude_running]
    rfl
  case completed =>
    have hexec : exec .geometryRecomputeCompletion s = .next (finishGeometry s) := rfl
    have hfinish : finishGeometry s = completeGeometry s := by simp only [finishGeometry, hx]
    rw [hexec, hfinish, completeGeometry_eq hp]
    have honly := (channelsOnly_geometryAdjust .a (measuredState h s)).trans (channelsOnly_geometryAdjust .b _)
    have hchannel (c : ChannelId) := geometryAdjusts_channel c (measuredState h s)
    have hsame (c : ChannelId) : (measuredState h s).channel c = s.channel c := by cases c <;> rfl
    obtain ⟨hdetached, hbusy, hidle⟩ := queueGeometryAll_heads h (geometryAdjust .b (geometryAdjust .a (measuredState h s)))
    have hheads (x : Fin 4) :
        (geometryAdjust .b (geometryAdjust .a (measuredState h s))).head x = s.head x := by rw [honly]; rfl
    simp only [hheads] at hdetached hbusy hidle
    generalize geometryAdjust .b (geometryAdjust .a (measuredState h s)) = adjusted at honly hchannel hdetached hbusy hidle
    refine ⟨_, rfl, ?_, ?_, ?_, fun c hrest => ?_, fun c rp st hparked hrp hst => ?_, hdetached, hbusy, hidle, ?_, ?_⟩
    · rw [honly]; rfl
    · rw [honly]; rfl
    · rw [honly]; rfl
    · obtain ⟨u, hch, hstories, -, hadj⟩ := hchannel c
      have hcur : u.currentStory c = (s.currentStory c).map Story.measured := by
        unfold State.currentStory
        rw [hch, hsame, Option.map_bind]
        congr 1
        funext rp
        rw [State.story?, hstories]
        exact measuredState_story? h s rp.story
      have hadj' : adjusted.channel c = u.channel c :=
        hadj.trans (geometryAdjust_idle (by rw [hch, hsame, hcur, Option.map_eq_none_iff]; exact hrest))
      exact hadj'.trans (hch.trans (hsame c))
    · obtain ⟨u, hch, hstories, hheights, hadj⟩ := hchannel c
      have hust : u.story? rp.story = some st.measured := by
        rw [State.story?, hstories]
        exact (measuredState_story? h s rp.story).trans (by rw [hst, Option.map_some])
      have hadj' := hadj.trans (geometryAdjust_parked (by rw [hch, hsame, hparked]) (by rw [hch, hsame, hrp]) hust)
      rw [hch, hsame, hheights] at hadj'
      exact hadj'
    · rw [State.respond_link]
      rw [honly]; rfl
    · unfold State.respond queueGeometryAll
      rw [honly]
      rfl
  case idle =>
    have hexec : exec .geometryRecomputeCompletion s = .next (finishGeometry s) := rfl
    rw [hexec, finishGeometry]
    split
    · rename_i hx'
      exact absurd hx' hx
    · rfl

/-! ## TIMING READ -/

theorem exec_timingRead {s : State} (hs : Ready s) :
    exec (.timingRead []) s = .next (conclude 0x53 (cmdTimingRead s)) :=
  exec_rowOf (cmd := .timingRead) trivial (Nat.zero_le _) hs

/-- The stories that the sum ahead counts (R105). -/
theorem planned_eq : Story.planned = fun x => decide (x.air = .standby ∧ x.floated = false) := by
  funext x
  cases ha : x.air <;> cases hf : x.floated <;> simp [Story.planned, ha, hf]

theorem plannedSeconds_eq (l : List Story) : plannedSeconds l
    = ((l.filter (fun x => decide (x.air = .standby ∧ x.floated = false))).map (fun x => x.p.getD 0)).sum := by
  rw [plannedSeconds, planned_eq]
  rfl

theorem plannedUntimed_eq (l : List Story) : plannedUntimed l
    = ((l.filter (fun x => decide (x.air = .standby ∧ x.floated = false))).filter (fun x => decide (x.p = none))).length := by
  rw [plannedUntimed, planned_eq]
  congr 2
  funext x
  cases x.p <;> rfl

/-- Every timing run takes its float from T_off and ShowRem (R106). -/
theorem timingRun_float (s : State) :
    s.timingRun.float = max (-5999) (min 5999 (s.clock.tOff - (s.timingRun.showRem : Int))) := by
  unfold State.timingRun
  split
  · rfl
  · split <;> rfl

theorem timingRun_clear {s : State} (h : s.clearInProgress = true) : s.timingRun = s.runOf 0 0 0 0 := if_pos h

theorem timingRun_unloaded {s : State} (h : s.clearInProgress = false) (hrp : (s.channel s.cues.lead).readPoint = none) :
    s.timingRun = s.runOf 0 0 (plannedSeconds s.stories) (plannedUntimed s.stories) := by
  simp only [State.timingRun, h, hrp, Bool.false_eq_true, if_false]

theorem timingRun_loaded {s : State} (h : s.clearInProgress = false) {rp : ReadPoint} {st : Story}
    (hrp : (s.channel s.cues.lead).readPoint = some rp) (hst : s.story? rp.story = some st) :
    s.timingRun = s.runOf st.id (remainder st s.heights rp) (plannedSeconds (s.storiesAfter st.id))
      (plannedUntimed (s.storiesAfter st.id) + if st.p = none then 1 else 0) := by
  have hcur : s.currentStory s.cues.lead = some st := by simp [State.currentStory, hrp, hst]
  simp only [State.timingRun, h, hrp, hcur, Bool.false_eq_true, if_false]

/-- The first story with an ID, by a split of the running order. -/
theorem story?_of_split {s : State} {before after : List Story} {st : Story} (h : s.stories = before ++ st :: after)
    (hbefore : ∀ x ∈ before, x.id ≠ st.id) : s.story? st.id = some st := by
  have hnone : before.find? (fun x => x.id == st.id) = none := by
    simpa [List.find?_eq_none] using hbefore
  rw [State.story?, h, List.find?_append, hnone]
  simp

theorem storiesAfter_of_split {s : State} {before after : List Story} {st : Story} (h : s.stories = before ++ st :: after)
    (hbefore : ∀ x ∈ before, x.id ≠ st.id) : s.storiesAfter st.id = after := by
  rw [State.storiesAfter, h, ← List.singleton_append, ← List.append_assoc]
  exact drop_dropWhile_id rfl hbefore

/-- Sections 6.3, 6.4, 6.5, 6.6, 6.7 and 6.8. Settles O34. -/
theorem timingReadReportsTheProgramme : Obligations.TimingReadReportsTheProgramme := by
  intro s hs
  refine ⟨_, s.timingReport, exec_timingRead hs, rfl, rfl, rfl, rfl, rfl, rfl, timingRun_float s, fun hclear => ?clear,
    fun hclear hrp => ?unloaded, fun rp before after st hclear hrp hsplit hid hbefore => ?loaded⟩
  all_goals dsimp only [State.timingReport]
  case clear =>
    rw [timingRun_clear hclear]
    exact ⟨rfl, rfl, rfl, rfl⟩
  case unloaded =>
    rw [timingRun_unloaded hclear hrp, plannedSeconds_eq, plannedUntimed_eq]
    exact ⟨rfl, rfl, congrArg _ (Nat.zero_add _), rfl⟩
  case loaded =>
    rw [← hid] at hbefore
    have hst := story?_of_split hsplit hbefore
    rw [timingRun_loaded hclear hrp (hid ▸ hst), storiesAfter_of_split hsplit hbefore, plannedSeconds_eq,
      plannedUntimed_eq]
    exact ⟨rfl, rfl, Int.natCast_add _ _, rfl⟩

end Sys2Proof.Machine
end

section
/-! PROOF. The arbiter seen from outside: the departure of an owner (R144, R145, R147), the lapse (R129), the settling of
a REPORT (R138 to R143) and the reconfiguration of a station (R132). -/

namespace Sys2Proof.Machine

/-! ## T and the departure of an owner -/

/-- T looks at the channel, at its owner and at the deflection held for the owner only (R69). -/
theorem targetFor_of_owner {s t : State} {c : ChannelId} (hch : t.channel c = s.channel c)
    (ho : (t.arbiter c).owner = (s.arbiter c).owner)
    (hheld : ∀ p, (s.arbiter c).owner = some p → (t.station p).held = (s.station p).held) :
    targetFor t c = targetFor s c := by
  unfold targetFor
  rw [ho, hch]
  cases h : (s.arbiter c).owner with
  | none => rfl
  | some p => simp only [hheld p h]

theorem targetFor_ownerless {s : State} {c : ChannelId} (h : (s.arbiter c).owner = none) : targetFor s c = 0 := by
  simp only [targetFor, h]

/-- From `s` to `t` the channel `c`, its arbitration record and the stations but `p` are as they were, and so are the role
and the rank of `p`. -/
structure StationAside (c : ChannelId) (p : Fin 4) (s t : State) : Prop where
  channel : ∀ d, t.channel d = s.channel d
  arbiter : ∀ d, t.arbiter d = s.arbiter d
  others : ∀ r, r ≠ p → t.station r = s.station r
  rank : (t.station p).role = (s.station p).role ∧ (t.station p).rank = (s.station p).rank

theorem stationAside_modStation (c : ChannelId) (p : Fin 4) (s : State) {f : Station → Station}
    (hf : (f (s.station p)).role = (s.station p).role ∧ (f (s.station p)).rank = (s.station p).rank) :
    StationAside c p s (s.modStation p f) where
  channel d := State.modStation_channel s p f d
  arbiter d := State.modStation_arbiter s p f d
  others _ hr := State.modStation_other s hr f
  rank := by rw [State.modStation_same]; exact hf

namespace StationAside

variable {c : ChannelId} {p : Fin 4} {s t : State}

theorem successor (h : StationAside c p s t) (loser : Option (Fin 4)) (ws : List (Fin 4)) :
    successor t loser ws = Machine.successor s loser ws := by
  refine successor_congr (fun q => ?_) loser ws
  by_cases hq : q = p
  · rw [hq]
    exact h.rank
  · rw [h.others q hq]
    exact ⟨rfl, rfl⟩

/-- The owner departs from a state in which at most its own record has changed. -/
theorem ownerDeparts (h : StationAside c p s t) (lost : Bool) :
    OwnerDeparts c p (loserAfter p lost (s.arbiter c)) s (depart c p lost t) := by
  have harb := depart_arbiter c p lost t
  have hstation (r : Fin 4) (hr : r ≠ p) := depart_station c p lost t r
  have hch := depart_channel c p lost t
  rw [h.arbiter, h.successor] at harb
  rw [h.channel] at hch
  simp only [h.arbiter, h.successor] at hstation
  unfold OwnerDeparts
  refine ⟨hch, ?_⟩
  split
  · rename_i q hq
    simp only [hq] at harb hstation
    refine ⟨harb, fun r hr => ?_⟩
    rw [hstation r hr, if_neg hr, h.others r hr]
  · rename_i hq
    simp only [hq] at harb hstation
    refine ⟨harb, by rw [hch]; exact targetFor_ownerless (by rw [harb]), fun r hr => ?_⟩
    rw [hstation r hr, if_neg hr, h.others r hr]

end StationAside

/-- The departed owner's own record: its latch is cleared. -/
theorem depart_station_own (c : ChannelId) (p : Fin 4) (lost : Bool) (s : State) :
    (depart c p lost s).station p = { s.station p with
      takeLatch := false, overridden := ((depart c p lost s).station p).overridden } := by
  rw [depart_station]
  dsimp only
  rw [if_pos rfl]
  cases successor s (s.arbiter c).lastLoser (s.arbiter c).waiting with
  | none => rfl
  | some q =>
    dsimp only
    split <;> rfl

/-- A mark that is clear stays clear in a departure. -/
theorem depart_overridden {c : ChannelId} {p : Fin 4} {s : State} (h : (s.station p).overridden = false) (lost : Bool) :
    ((depart c p lost s).station p).overridden = false := by
  rw [depart_station]
  dsimp only
  rw [if_pos rfl]
  cases successor s (s.arbiter c).lastLoser (s.arbiter c).waiting with
  | none => simp [h]
  | some q =>
    dsimp only
    split
    · rfl
    · exact h

/-- A departure leaves of the other stations everything but the overridden mark. -/
theorem depart_station_other {c : ChannelId} {p r : Fin 4} (hr : r ≠ p) (lost : Bool) (s : State) :
    (depart c p lost s).station r
      = { s.station r with overridden := ((depart c p lost s).station r).overridden } := by
  rw [depart_station]
  dsimp only
  rw [if_neg hr]
  cases successor s (s.arbiter c).lastLoser (s.arbiter c).waiting with
  | none => rfl
  | some q =>
    dsimp only
    split <;> rfl

/-! ## The lapse (R129) -/

/-- The record of a station whose lapse timer has expired. -/
def Station.silenced (st : Station) : Station :=
  { st with state := .silent, lapse := none, lapseFlag := true, takeLatch := false, overridden := false }

theorem lapse_eq {p : Fin 4} {s : State} (h : (s.station p).lapse ≠ none) : lapse p s =
    if (s.arbiter (s.station p).channel).owner = some p then
      depart (s.station p).channel p true (s.modStation p Station.silenced)
    else leaveWaiting (s.station p).channel p (s.modStation p Station.silenced) := by
  unfold lapse leaveActive
  rw [if_neg h]
  simp only [State.modStation_modStation, State.modStation_same, State.modStation_arbiter]
  rfl

/-- Sections 8.3, 9.5 and 9.6. Settles O47. -/
theorem aLapseSilencesTheStation : Obligations.ALapseSilencesTheStation := by
  intro p s
  have hexec : exec (.lapseExpiry p) s = .next (lapse p s) := rfl
  rw [hexec]
  refine ⟨fun hstop => by rw [lapse, if_pos hstop], fun hrun => ?_⟩
  have honly := arbitersOnly_lapse p s
  refine ⟨lapse p s, rfl, ?_⟩
  have haside : StationAside (s.station p).channel p s (s.modStation p Station.silenced) :=
    stationAside_modStation _ p s ⟨rfl, rfl⟩
  have hown : (s.modStation p Station.silenced).station p = (s.station p).silenced := State.modStation_same s p _
  by_cases ho : (s.arbiter (s.station p).channel).owner = some p
  · have heq : lapse p s = depart (s.station p).channel p true (s.modStation p Station.silenced) :=
      (lapse_eq hrun).trans (if_pos ho)
    have hdeparts := haside.ownerDeparts true
    rw [← heq] at hdeparts
    refine ⟨?_, fun q hq => ?_, fun hn => absurd ho hn, fun _ hw => ?_, fun _ _ => hdeparts, fun _ => hdeparts.1,
      fun d hd => ?_, honly⟩
    · rw [heq, depart_station_own, depart_overridden (by rw [hown]; rfl), hown]
      rfl
    · rw [heq, depart_station_other hq, haside.others q hq]
    · have hnone : successor s (s.arbiter (s.station p).channel).lastLoser (s.arbiter (s.station p).channel).waiting
          = none := successor_eq_none_iff.mpr hw
      unfold OwnerDeparts at hdeparts
      simp only [hnone] at hdeparts
      exact ⟨hdeparts.2.1, hdeparts.2.2.1⟩
    · rw [heq, depart_channel_other hd, depart_arbiter_other hd, haside.channel, haside.arbiter]
      exact ⟨rfl, rfl⟩
  · have heq : lapse p s = leaveWaiting (s.station p).channel p (s.modStation p Station.silenced) :=
      (lapse_eq hrun).trans (if_neg ho)
    refine ⟨?_, fun q hq => ?_, fun _ => ⟨?_, ?_, fun q hq => ?_⟩, fun h => absurd h ho, fun h => absurd h ho,
      fun h => absurd h ho, fun d hd => ?_, honly⟩
    · rw [heq, leaveWaiting_station, hown]
      rfl
    · rw [heq, leaveWaiting_station, haside.others q hq]
    · rw [heq, leaveWaiting_arbiter, haside.arbiter]
    · rw [heq, leaveWaiting_channel, haside.channel]
    · rw [heq, leaveWaiting_station, haside.others q hq]
    · rw [heq, leaveWaiting_channel, leaveWaiting_arbiter_other hd, haside.channel, haside.arbiter]
      exact ⟨rfl, rfl⟩

end Sys2Proof.Machine
end

section
/-! PROOF. How the arbiter settles a REPORT (R136, R138 to R144). -/

namespace Sys2Proof.Machine

/-! ## The parts of a settled REPORT -/

/-- The record of the reporting station: its held deflection and its latch (R136, R139). -/
def Station.holding (st : Station) (d : Int) (takePress releasePress : Bool) : Station :=
  { st with held := some d, takeLatch := latchAfter st.role takePress releasePress st.takeLatch }

theorem holdLevels_own (p : Fin 4) (d : Int) (takePress releasePress : Bool) (s : State) :
    (holdLevels p d takePress releasePress s).station p = (s.station p).holding d takePress releasePress :=
  State.modStation_same s p _

theorem holdLevels_aside (c : ChannelId) (p : Fin 4) (d : Int) (takePress releasePress : Bool) (s : State) :
    StationAside c p s (holdLevels p d takePress releasePress s) := stationAside_modStation c p s ⟨rfl, rfl⟩

/-- T after an act that gives the channel its owner, seen from the state before. -/
theorem becomeOwner_own (c : ChannelId) (p : Fin 4) (s : State) :
    (becomeOwner c p s).station p = { s.station p with overridden := false } := by
  rw [becomeOwner_station, if_pos rfl]

theorem becomeOwner_others (c : ChannelId) {p r : Fin 4} (hr : r ≠ p) (s : State) :
    (becomeOwner c p s).station r = s.station r := by rw [becomeOwner_station, if_neg hr]

theorem joinWaiting_arbiter (c : ChannelId) (p : Fin 4) (s : State) : (joinWaiting c p s).arbiter c =
    { s.arbiter c with
      waiting := if p ∈ (s.arbiter c).waiting then (s.arbiter c).waiting else (s.arbiter c).waiting ++ [p] } := by
  unfold joinWaiting
  split
  · rfl
  · rw [setOverridden, State.modStation_arbiter, State.modArbiter_same]

theorem joinWaiting_arbiter_other {c d : ChannelId} (hd : d ≠ c) (p : Fin 4) (s : State) :
    (joinWaiting c p s).arbiter d = s.arbiter d := by
  unfold joinWaiting
  split
  · rfl
  · rw [setOverridden, State.modStation_arbiter, State.modArbiter_other s hd]

theorem joinWaiting_channel (c : ChannelId) (p : Fin 4) (s : State) (d : ChannelId) :
    (joinWaiting c p s).channel d = s.channel d := by
  unfold joinWaiting
  split
  · rfl
  · rw [setOverridden, State.modStation_channel, State.modArbiter_channel]

theorem joinWaiting_others (c : ChannelId) {p r : Fin 4} (hr : r ≠ p) (s : State) :
    (joinWaiting c p s).station r = s.station r := by
  unfold joinWaiting
  split
  · rfl
  · rw [setOverridden, State.modStation_other _ hr, State.modArbiter_station]

theorem joinWaiting_own (c : ChannelId) (p : Fin 4) (s : State) : (joinWaiting c p s).station p =
    { s.station p with overridden := decide (p ∈ (s.arbiter c).waiting) && (s.station p).overridden } := by
  unfold joinWaiting
  split
  · rename_i h
    simp [h]
  · rename_i h
    rw [setOverridden, State.modStation_same, State.modArbiter_station]
    simp [h]

/-! ## The claim of a station that is not the owner (R141 to R143) -/

theorem claim_ownerless {c : ChannelId} {s : State} (h : (s.arbiter c).owner = none) (p : Fin 4) (take : Bool) :
    claim c p take s = becomeOwner c p s := by simp only [claim, h]

theorem claim_override {c : ChannelId} {p q : Fin 4} {take : Bool} {s : State} (h : (s.arbiter c).owner = some q)
    (ho : (s.station p).role = .operator ∧ take = true ∧ (s.station q).role = .presenter) :
    claim c p take s = setOverridden q true (becomeOwner c p s) := by
  simp only [claim, h]
  exact if_pos ho

theorem claim_takeover {c : ChannelId} {p q : Fin 4} {take : Bool} {s : State} (h : (s.arbiter c).owner = some q)
    (hr : (s.station p).role = (s.station q).role ∧ s.handOff ≤ (s.arbiter c).idle) :
    claim c p take s = becomeOwner c p s := by
  have hno : ¬((s.station p).role = .operator ∧ take = true ∧ (s.station q).role = .presenter) := by
    rintro ⟨hp, -, hq⟩
    rw [hp, hq] at hr
    exact nomatch hr.1
  simp only [claim, h]
  rw [if_neg hno, if_pos hr]

theorem claim_waits {c : ChannelId} {p q : Fin 4} {take : Bool} {s : State} (h : (s.arbiter c).owner = some q)
    (ho : ¬((s.station p).role = .operator ∧ take = true ∧ (s.station q).role = .presenter))
    (hr : ¬((s.station p).role = (s.station q).role ∧ s.handOff ≤ (s.arbiter c).idle)) :
    claim c p take s = joinWaiting c p s := by
  simp only [claim, h]
  rw [if_neg ho, if_neg hr]

/-- A claim leaves of the claiming station everything but the overridden mark, and of the other channels everything. -/
theorem claim_keeps (c : ChannelId) (p : Fin 4) (take : Bool) {s : State} (ho : (s.arbiter c).owner ≠ some p) :
    (claim c p take s).station p = { s.station p with overridden := ((claim c p take s).station p).overridden }
    ∧ ∀ e, e ≠ c → (claim c p take s).channel e = s.channel e ∧ (claim c p take s).arbiter e = s.arbiter e := by
  have hbecomes : (becomeOwner c p s).station p
        = { s.station p with overridden := ((becomeOwner c p s).station p).overridden }
      ∧ ∀ e, e ≠ c → (becomeOwner c p s).channel e = s.channel e ∧ (becomeOwner c p s).arbiter e = s.arbiter e :=
    ⟨by rw [becomeOwner_own], fun e he => ⟨becomeOwner_channel_other he p s, becomeOwner_arbiter_other he p s⟩⟩
  unfold claim
  split
  · exact hbecomes
  · rename_i q hq
    have hpq : p ≠ q := fun e => ho (e ▸ hq)
    dsimp only
    split
    · refine ⟨?_, fun e he => ?_⟩
      · rw [setOverridden, State.modStation_other _ hpq]
        exact hbecomes.1
      · rw [setOverridden, State.modStation_channel, State.modStation_arbiter]
        exact hbecomes.2 e he
    · split
      · exact hbecomes
      · exact ⟨by rw [joinWaiting_own], fun e he => ⟨joinWaiting_channel c p s e, joinWaiting_arbiter_other he p s⟩⟩

/-! ## The settled REPORT -/

theorem settle_release {p : Fin 4} {s : State} (ho : (s.arbiter (s.station p).channel).owner = some p) (d j : Int)
    (take : Bool) : settle p d j take true s
      = leaveWaiting (s.station p).channel p (depart (s.station p).channel p true (holdLevels p d take true s)) := by
  rw [settle_eq]
  dsimp only
  rw [if_pos ho, if_pos rfl]

theorem settle_owner {p : Fin 4} {s : State} (ho : (s.arbiter (s.station p).channel).owner = some p) (d j : Int)
    (take : Bool) : settle p d j take false s =
      if showsActivity (s.channel (s.station p).channel).tuning.dz d j take then
        (holdLevels p d take false s).modArbiter (s.station p).channel (fun a => { a with idle := 0 })
      else holdLevels p d take false s := by
  rw [settle_eq]
  dsimp only
  rw [if_pos ho, if_neg Bool.false_ne_true, Bool.not_false, Bool.and_true]

/-- A station that is not the owner asks for its channel (R139). -/
def Requests (p : Fin 4) (d j : Int) (take release : Bool) (s : State) : Prop :=
  release = false ∧ ((s.channel (s.station p).channel).tuning.dz < d.natAbs ∨ j ≠ 0
    ∨ ((s.station p).role = .operator ∧ latchAfter (s.station p).role take release (s.station p).takeLatch = true))

theorem requesting_iff (p : Fin 4) (d j : Int) (take release : Bool) (s : State) :
    requesting (s.station p).role (s.channel (s.station p).channel).tuning.dz d j release
      (latchAfter (s.station p).role take release (s.station p).takeLatch) = true ↔ Requests p d j take release s := by
  simp [requesting, Requests, outsideDeadZone, or_assoc]

theorem settle_quiet {p : Fin 4} {d j : Int} {take release : Bool} {s : State}
    (ho : (s.arbiter (s.station p).channel).owner ≠ some p) (h : ¬Requests p d j take release s) :
    settle p d j take release s = leaveWaiting (s.station p).channel p (holdLevels p d take release s) := by
  rw [settle_eq]
  dsimp only
  rw [if_neg ho, if_neg (mt (requesting_iff p d j take release s).mp h)]

theorem settle_claims {p : Fin 4} {d j : Int} {take release : Bool} {s : State}
    (ho : (s.arbiter (s.station p).channel).owner ≠ some p) (h : Requests p d j take release s) :
    settle p d j take release s = claim (s.station p).channel p take (holdLevels p d take release s) := by
  rw [settle_eq]
  dsimp only
  rw [if_neg ho, if_pos ((requesting_iff p d j take release s).mpr h), h.1, Bool.not_false, Bool.and_true]

/-- What a REPORT leaves of a station that is not the owner, and of the other channels. -/
theorem settle_keeps (p : Fin 4) (d j : Int) (take release : Bool) {s : State}
    (ho : (s.arbiter (s.station p).channel).owner ≠ some p) :
    let t := settle p d j take release s
    t.station p = { (s.station p).holding d take release with overridden := (t.station p).overridden }
    ∧ ∀ e, e ≠ (s.station p).channel → t.channel e = s.channel e ∧ t.arbiter e = s.arbiter e := by
  have haside := holdLevels_aside (s.station p).channel p d take release s
  have hown := holdLevels_own p d take release s
  dsimp only
  by_cases h : Requests p d j take release s
  · rw [settle_claims ho h]
    obtain ⟨h1, h2⟩ := claim_keeps (s.station p).channel p take (s := holdLevels p d take release s)
      (by rw [haside.arbiter]; exact ho)
    refine ⟨?_, fun e he => ?_⟩
    · rw [h1, hown]
    · rw [(h2 e he).1, (h2 e he).2, haside.channel, haside.arbiter]
      exact ⟨rfl, rfl⟩
  · rw [settle_quiet ho h, leaveWaiting_station, hown]
    refine ⟨rfl, fun e he => ?_⟩
    rw [leaveWaiting_channel, leaveWaiting_arbiter_other he, haside.channel, haside.arbiter]
    exact ⟨rfl, rfl⟩

/-- The station has gained the channel (R138, R147). -/
def Gains (c : ChannelId) (p : Fin 4) (s t : State) : Prop :=
  (t.arbiter c).owner = some p ∧ (t.arbiter c).idle = 0
    ∧ (t.arbiter c).waiting = (s.arbiter c).waiting.filter (fun x => decide (x ≠ p))
    ∧ (t.arbiter c).lastLoser = (s.arbiter c).lastLoser
    ∧ t.channel c = { s.channel c with ownerChanged := true, target := targetFor t c }
    ∧ (t.station p).overridden = false

theorem gains_becomeOwner {c : ChannelId} {p : Fin 4} {s u : State} (haside : StationAside c p s u) :
    Gains c p s (becomeOwner c p u) := by
  unfold Gains
  rw [becomeOwner_arbiter, becomeOwner_own, haside.arbiter]
  exact ⟨rfl, rfl, rfl, rfl, (becomeOwner_channel c p u).trans (by rw [haside.channel]), rfl⟩

/-- The mark of another station has no part in a gain. -/
theorem Gains.setOverridden {c : ChannelId} {p q : Fin 4} {s t : State} (h : Gains c p s t) (hq : p ≠ q) (v : Bool) :
    Gains c p s (setOverridden q v t) := by
  obtain ⟨h1, h2, h3, h4, h5, h6⟩ := h
  have ht : targetFor (Machine.setOverridden q v t) c = targetFor t c :=
    targetFor_of_owner (State.modStation_channel t q _ c) (by rw [Machine.setOverridden, State.modStation_arbiter])
      fun r hr => by
        obtain rfl : p = r := Option.some_inj.mp (h1.symm.trans hr)
        rw [Machine.setOverridden, State.modStation_other t hq]
  unfold Gains
  rw [ht]
  rw [Machine.setOverridden, State.modStation_arbiter, State.modStation_channel, State.modStation_other t hq]
  exact ⟨h1, h2, h3, h4, h5, h6⟩

/-! ## The REPORT of the owner -/

/-- A RELEASE press of the owner, which does not stand in its own list (R138, R144). -/
theorem settle_release_departs {p : Fin 4} {s : State} (ho : (s.arbiter (s.station p).channel).owner = some p)
    (hw : p ∉ (s.arbiter (s.station p).channel).waiting) (d j : Int) (take : Bool) :
    OwnerDeparts (s.station p).channel p (some p) s (settle p d j take true s) := by
  have hdeparts := (holdLevels_aside (s.station p).channel p d take true s).ownerDeparts true
  rw [settle_release ho]
  generalize depart (s.station p).channel p true (holdLevels p d take true s) = u at hdeparts ⊢
  unfold OwnerDeparts at hdeparts ⊢
  obtain ⟨hch, hrest⟩ := hdeparts
  have hfilter (ws : List (Fin 4)) (h : p ∉ ws) : ws.filter (fun r => decide (r ≠ p)) = ws :=
    List.filter_eq_self.mpr fun r hr => decide_eq_true fun e => h (e ▸ hr)
  refine ⟨?_, ?_⟩
  · rw [leaveWaiting_channel, targetFor_of_owner (leaveWaiting_channel _ p u _) (by rw [leaveWaiting_arbiter])
      (fun r _ => by rw [leaveWaiting_station])]
    exact hch
  · cases hs : successor s (s.arbiter (s.station p).channel).lastLoser (s.arbiter (s.station p).channel).waiting with
    | some q =>
      simp only [hs] at hrest ⊢
      obtain ⟨harb, hst⟩ := hrest
      refine ⟨?_, fun r hr => (leaveWaiting_station _ p u r).trans (hst r hr)⟩
      rw [leaveWaiting_arbiter, harb, hfilter _ (fun hm => hw (List.mem_filter.mp hm |>.1))]
      rfl
    | none =>
      simp only [hs] at hrest ⊢
      obtain ⟨harb, ht, hst⟩ := hrest
      refine ⟨?_, by rw [leaveWaiting_channel]; exact ht, fun r hr => (leaveWaiting_station _ p u r).trans (hst r hr)⟩
      rw [leaveWaiting_arbiter, harb]
      rfl

theorem showsActivity_iff (dz : Nat) (d j : Int) (take : Bool) :
    showsActivity dz d j take = true ↔ dz < d.natAbs ∨ j ≠ 0 ∨ take = true := by
  simp [showsActivity, outsideDeadZone, or_assoc]

/-- A REPORT of the owner without RELEASE (R138, R139). -/
theorem settle_owner_keeps {p : Fin 4} {s : State} (ho : (s.arbiter (s.station p).channel).owner = some p) (d j : Int)
    (take : Bool) : let t := settle p d j take false s
      (∀ r, t.station r = (holdLevels p d take false s).station r)
      ∧ (∀ e, t.channel e = s.channel e) ∧ (∀ e, e ≠ (s.station p).channel → t.arbiter e = s.arbiter e)
      ∧ t.arbiter (s.station p).channel = { s.arbiter (s.station p).channel with
          idle := if (s.channel (s.station p).channel).tuning.dz < d.natAbs ∨ j ≠ 0 ∨ take = true then 0
            else (s.arbiter (s.station p).channel).idle } := by
  have haside := holdLevels_aside (s.station p).channel p d take false s
  dsimp only
  rw [settle_owner ho]
  simp only [showsActivity_iff]
  split
  · refine ⟨fun r => State.modArbiter_station _ _ _ r, fun e => ?_, fun e he => ?_, ?_⟩
    · rw [State.modArbiter_channel, haside.channel]
    · rw [State.modArbiter_other _ he, haside.arbiter]
    · rw [State.modArbiter_same, haside.arbiter]
  · exact ⟨fun _ => rfl, haside.channel, fun e _ => haside.arbiter e, haside.arbiter _⟩

theorem latchAfter_release (role : Role) (take latch : Bool) :
    latchAfter role take true latch = if role = .operator then false else latch := rfl

/-- Sections 9.1, 9.2, 9.3, 9.4, 9.5 and 9.6. Settles O50. -/
theorem claimsAreSettledByRoleAndIdleTime : Obligations.ClaimsAreSettledByRoleAndIdleTime := by
  intro p d j take release s
  dsimp only
  have honly := arbitersOnly_settle p d j take release s
  have haside := holdLevels_aside (s.station p).channel p d take release s
  have hown := holdLevels_own p d take release s
  by_cases ho : (s.arbiter (s.station p).channel).owner = some p
  · cases release with
    | true =>
      have hstation : (settle p d j take true s).station p = { s.station p with
          held := some d, takeLatch := false, overridden := ((settle p d j take true s).station p).overridden } := by
        rw [settle_release ho, leaveWaiting_station, depart_station_own, hown]
        rfl
      refine ⟨fun _ => ⟨by rw [hstation], fun _ hw => ⟨settle_release_departs ho hw d j take, by rw [hstation]⟩,
        fun h => nomatch h⟩, fun hn => absurd ho hn, by rw [hstation], fun e he => ?_, honly⟩
      rw [settle_release ho, leaveWaiting_channel, leaveWaiting_arbiter_other he, depart_channel_other he,
        depart_arbiter_other he, haside.channel, haside.arbiter]
      exact ⟨rfl, rfl⟩
    | false =>
      obtain ⟨hst, hch, harb, harbc⟩ := settle_owner_keeps ho d j take
      have hstation : (settle p d j take false s).station p = (s.station p).holding d take false :=
        (hst p).trans hown
      refine ⟨fun _ => ⟨by rw [hstation]; rfl, (fun h => nomatch h), fun _ => ⟨?_, hch _, harbc, by rw [hstation]; rfl,
        fun r hr => (hst r).trans (haside.others r hr)⟩⟩, fun hn => absurd ho hn, by rw [hstation]; rfl,
        fun e he => ⟨hch e, harb e he⟩, honly⟩
      rw [hstation]
      simp only [Station.holding, latchAfter]
      cases (s.station p).role <;> cases take <;> cases (s.station p).takeLatch <;> rfl
  · obtain ⟨hstation, hother⟩ := settle_keeps p d j take release ho
    have hlatch : ((settle p d j take release s).station p).takeLatch
        = latchAfter (s.station p).role take release (s.station p).takeLatch := by rw [hstation]; rfl
    rw [hlatch]
    have hothers (t : State) (h : ∀ r, r ≠ p → t.station r = (holdLevels p d take release s).station r) :
        ∀ r, r ≠ p → t.station r = s.station r := fun r hr => (h r hr).trans (haside.others r hr)
    have howner (q : Fin 4) (h : (s.arbiter (s.station p).channel).owner = some q) :
        ((holdLevels p d take release s).arbiter (s.station p).channel).owner = some q := by rw [haside.arbiter]; exact h
    have hne (q : Fin 4) (h : (s.arbiter (s.station p).channel).owner = some q) : p ≠ q := fun e => ho (e ▸ h)
    have hrole (q : Fin 4) (h : (s.arbiter (s.station p).channel).owner = some q) :
        ((holdLevels p d take release s).station q).role = (s.station q).role := by rw [haside.others q (hne q h).symm]
    refine ⟨fun h => absurd h ho, fun _ => ⟨by rw [hstation]; rfl, fun hr => ?latch, fun hr => ?no_latch,
      fun hasks => ?quiet, fun hasks hn => ?ownerless, fun q hasks hq hr htake hrq => ?override,
      fun q hasks hq hr hidle => ?takeover, fun q hasks hq hno hni => ?waits⟩, by rw [hstation]; rfl, hother, honly⟩
    case latch =>
      rw [hr, latchAfter, if_pos rfl]
      cases take <;> rfl
    case no_latch => rw [latchAfter, if_neg hr]
    case quiet =>
      rw [settle_quiet ho hasks, leaveWaiting_arbiter, leaveWaiting_channel, leaveWaiting_station, hown, haside.arbiter,
        haside.channel]
      exact ⟨rfl, rfl, rfl, hothers _ fun r _ => leaveWaiting_station _ p _ r⟩
    all_goals rw [settle_claims ho hasks]
    case ownerless =>
      rw [claim_ownerless (by rw [haside.arbiter]; exact hn)]
      exact ⟨gains_becomeOwner haside, hothers _ fun r hr => becomeOwner_others _ hr _⟩
    case override =>
      rw [claim_override (howner q hq) ⟨haside.rank.1.trans hr, htake, (hrole q hq).trans hrq⟩]
      refine ⟨(gains_becomeOwner haside).setOverridden (hne q hq) true, fun r hrp => ?_⟩
      rw [setOverridden, State.modStation_station, becomeOwner_others _ hrp, haside.others r hrp]
      split
      · rename_i h
        rw [h, becomeOwner_others _ (hne q hq).symm, haside.others q (hne q hq).symm]
      · rfl
    case takeover =>
      rw [claim_takeover (howner q hq)
        ⟨haside.rank.1.trans (hr.trans (hrole q hq).symm), by rw [haside.arbiter]; exact hidle⟩]
      exact ⟨gains_becomeOwner haside, hothers _ fun r hr => becomeOwner_others _ hr _⟩
    case waits =>
      rw [claim_waits (howner q hq) (by rw [haside.rank.1, hrole q hq]; exact hno)
        (by rw [haside.rank.1, hrole q hq, haside.arbiter]; exact hni), joinWaiting_arbiter, joinWaiting_channel,
        joinWaiting_own, haside.arbiter, haside.channel, hown]
      exact ⟨rfl, rfl, rfl, hothers _ fun r hr => joinWaiting_others _ hr _⟩

end Sys2Proof.Machine
end

section
/-! PROOF. STATION SET (R132, R122, R136, R144, R146). -/

namespace Sys2Proof.Machine

/-! ## The fields of STATION SET -/

theorem exec_stationSet {st : Nat} {f : StationFields} (hf : (Command.stationSet st f).fits) {s : State} (hs : Ready s) :
    exec (.stationSet (Command.stationSet st f).args) s = .next (conclude 0x40 (cmdStationSet st f s)) := by
  refine exec_rowOf (cmd := .stationSet st f) hf ?_ hs
  have hbyte (x : Option Nat) := length_sendOpt_byte1 x
  have hword (x : Option Nat) := length_sendOpt_be16 x
  have := hbyte f.role
  have := hbyte f.channel
  have := hbyte f.rank
  have := hword f.lapseTime
  have := hword f.handOff
  simp only [Command.args, List.length_append, List.length_cons, List.length_nil, maxArgs]
  omega

theorem noField_iff (f : StationFields) : f.noField = true ↔ f = ⟨none, none, none, none, none⟩ := by
  obtain ⟨role, channel, rank, lapseTime, handOff⟩ := f
  simp [StationFields.noField, and_assoc]

/-- A role or a channel that the command does not define. -/
abbrev BadFields (f : StationFields) : Prop :=
  (∃ n, f.role = some n ∧ 3 ≤ n) ∨ (∃ n, f.channel = some n ∧ 2 ≤ n)

theorem toRole_eq_none_iff (n : Nat) : toRole n = none ↔ 3 ≤ n := by
  match n with
  | 0 => simp [toRole]
  | 1 => simp [toRole]
  | 2 => simp [toRole]
  | n + 3 => simp [toRole]

theorem toChannel_eq_none_iff (n : Nat) : toChannel n = none ↔ 2 ≤ n := by
  match n with
  | 0 => simp [toChannel]
  | 1 => simp [toChannel]
  | n + 2 => simp [toChannel]

theorem bad_iff (f : StationFields) : f.bad = true ↔ BadFields f := by
  simp [StationFields.bad, Option.any_eq_true, toRole_eq_none_iff, toChannel_eq_none_iff]

theorem reconfigures_eq_false_iff (f : StationFields) :
    f.reconfigures = false ↔ f.role = none ∧ f.channel = none ∧ f.rank = none := by
  simp [StationFields.reconfigures, and_assoc]

/-- The role after the command. -/
theorem roleAfter_eq {f : StationFields} (h : ¬BadFields f) (old : Role) : (f.role.bind toRole).getD old = match f.role with
    | some 0 => .off
    | some 1 => .presenter
    | some _ => .operator
    | none => old := by
  cases hr : f.role with
  | none => rfl
  | some n =>
    have hn : n < 3 := by
      refine Classical.byContradiction fun hge => ?_
      exact h (.inl ⟨n, hr, by omega⟩)
    match n, hn with
    | 0, _ => rfl
    | 1, _ => rfl
    | 2, _ => rfl

/-- The binding after the command. -/
theorem channelAfter_eq {f : StationFields} (h : ¬BadFields f) (old : ChannelId) :
    (f.channel.bind toChannel).getD old = match f.channel with
    | some 0 => .a
    | some _ => .b
    | none => old := by
  cases hc : f.channel with
  | none => rfl
  | some n =>
    have hn : n < 2 := by
      refine Classical.byContradiction fun hge => ?_
      exact h (.inr ⟨n, hc, by omega⟩)
    match n, hn with
    | 0, _ => rfl
    | 1, _ => rfl

/-! ## The reconfiguration -/

/-- The part with the device-wide settings that the command brings (R122). -/
def State.resettled (s : State) (f : StationFields) : State :=
  { s with
    lapseTime := (f.lapseTime.map (clampNat 50 1000)).getD s.lapseTime
    handOff := (f.handOff.map (clampNat 0 5000)).getD s.handOff }

theorem setStation_refused {f : StationFields} (h : f = ⟨none, none, none, none, none⟩ ∨ BadFields f) (p : Fin 4)
    (s : State) : setStation f p s = refuse .argument s := by
  rw [← noField_iff, ← bad_iff] at h
  rw [setStation, if_pos (by simpa using h)]

theorem setStation_taken {f : StationFields} (hfield : f ≠ ⟨none, none, none, none, none⟩) (hbad : ¬BadFields f) (p : Fin 4)
    (s : State) : setStation f p s =
      (let s2 := if f.reconfigures then reconfigure p f (s.resettled f) else s.resettled f
       okay (.stationSet (s2.station p).role (s2.station p).channel (s2.station p).rank (s2.station p).state s2.lapseTime
        s2.handOff) s2) := by
  rw [← bad_iff] at hbad
  rw [setStation, if_neg (by simpa [noField_iff, hbad] using hfield)]
  rfl

/-- A station as it leaves its channel: the latch and the mark are clear. -/
def Station.leaving (st : Station) : Station := { st with takeLatch := false, overridden := false }

theorem leaveActive_eq (p : Fin 4) (lost : Bool) (s : State) : leaveActive p lost s =
    if (s.arbiter (s.station p).channel).owner = some p then
      depart (s.station p).channel p lost (s.modStation p Station.leaving)
    else leaveWaiting (s.station p).channel p (s.modStation p Station.leaving) := by
  unfold leaveActive
  simp only [State.modStation_arbiter]
  rfl

theorem leaveActive_own (p : Fin 4) (lost : Bool) (s : State) :
    (leaveActive p lost s).station p = (s.station p).leaving := by
  have hown : (s.modStation p Station.leaving).station p = (s.station p).leaving := State.modStation_same s p _
  rw [leaveActive_eq]
  split
  · rw [depart_station_own, depart_overridden (by rw [hown]; rfl), hown]
    rfl
  · rw [leaveWaiting_station, hown]

theorem leaveActive_otherChannel {p : Fin 4} {s : State} {d : ChannelId} (hd : d ≠ (s.station p).channel) (lost : Bool) :
    (leaveActive p lost s).channel d = s.channel d ∧ (leaveActive p lost s).arbiter d = s.arbiter d := by
  rw [leaveActive_eq]
  split
  · rw [depart_channel_other hd, depart_arbiter_other hd, State.modStation_channel, State.modStation_arbiter]
    exact ⟨rfl, rfl⟩
  · rw [leaveWaiting_channel, leaveWaiting_arbiter_other hd, State.modStation_channel, State.modStation_arbiter]
    exact ⟨rfl, rfl⟩

theorem reconfigure_station (p : Fin 4) (f : StationFields) (s : State) (r : Fin 4) : (reconfigure p f s).station r
    = if r = p then (s.station p).leaving.configured f else (leaveActive p false s).station r := by
  rw [reconfigure, State.modStation_station, forgetLoser_station, forgetLoser_station, leaveActive_own]

theorem forgetLoser_channel (p : Fin 4) (s : State) (c : ChannelId) : (forgetLoser p s).channel c = s.channel c := by
  simp [forgetLoser]

theorem reconfigure_channel (p : Fin 4) (f : StationFields) (s : State) (c : ChannelId) :
    (reconfigure p f s).channel c = (leaveActive p false s).channel c := by
  rw [reconfigure, State.modStation_channel, forgetLoser_channel]

theorem reconfigure_arbiter (p : Fin 4) (f : StationFields) (s : State) (c : ChannelId) : (reconfigure p f s).arbiter c =
    { (leaveActive p false s).arbiter c with
      lastLoser := if ((leaveActive p false s).arbiter c).lastLoser = some p then none
        else ((leaveActive p false s).arbiter c).lastLoser } := by
  rw [reconfigure, State.modStation_arbiter, forgetLoser_arbiter]

/-- The last-loser of a channel once a station is no one's last-loser any more (R136). -/
def State.loserWithout (s : State) (p : Fin 4) (d : ChannelId) : Option (Fin 4) :=
  if (s.arbiter d).lastLoser = some p then none else (s.arbiter d).lastLoser

/-- A reconfigured owner departs (R132, R144). -/
theorem reconfigure_owner {p : Fin 4} {s : State} (hx : OwnershipExact s)
    (ho : (s.arbiter (s.station p).channel).owner = some p) (f : StationFields) :
    OwnerDeparts (s.station p).channel p (s.loserWithout p (s.station p).channel) s (reconfigure p f s) := by
  have hleave : leaveActive p false s = depart (s.station p).channel p false (s.modStation p Station.leaving) :=
    (leaveActive_eq p false s).trans (if_pos ho)
  have hdeparts : OwnerDeparts (s.station p).channel p (s.arbiter (s.station p).channel).lastLoser s
      (leaveActive p false s) := hleave ▸ (stationAside_modStation _ p s ⟨rfl, rfl⟩).ownerDeparts false
  have harb := reconfigure_arbiter p f s (s.station p).channel
  have hstation (r : Fin 4) (hr : r ≠ p) := (reconfigure_station p f s r).trans (if_neg hr)
  have hch := reconfigure_channel p f s (s.station p).channel
  unfold OwnerDeparts at hdeparts ⊢
  obtain ⟨htarget, hrest⟩ := hdeparts
  cases hs : successor s (s.arbiter (s.station p).channel).lastLoser (s.arbiter (s.station p).channel).waiting with
  | some q =>
    simp only [hs] at hrest ⊢
    obtain ⟨harb', hst⟩ := hrest
    rw [harb'] at harb
    have hqp : q ≠ p := by
      obtain ⟨hmem, -⟩ := successor_eq_some_iff.mp hs
      obtain ⟨-, hwait, -⟩ := hx (s.station p).channel (by cases (s.station p).channel <;> decide)
      exact fun e => (hwait q hmem).2.2 (e ▸ ho)
    have ht : targetFor (reconfigure p f s) (s.station p).channel
        = targetFor (leaveActive p false s) (s.station p).channel :=
      targetFor_of_owner hch (by rw [harb, harb']) fun r hr => by
        rw [harb'] at hr
        obtain rfl : q = r := Option.some_inj.mp hr
        rw [hstation q hqp]
    exact ⟨by rw [hch, ht]; exact htarget, harb, fun r hr => (hstation r hr).trans (hst r hr)⟩
  | none =>
    simp only [hs] at hrest ⊢
    obtain ⟨harb', hzero, hst⟩ := hrest
    rw [harb'] at harb
    have ht : targetFor (reconfigure p f s) (s.station p).channel
        = targetFor (leaveActive p false s) (s.station p).channel :=
      targetFor_of_owner hch (by rw [harb, harb']) fun r hr => by
        rw [harb'] at hr
        exact nomatch hr
    exact ⟨by rw [hch, ht]; exact htarget, harb, by rw [hch]; exact hzero, fun r hr => (hstation r hr).trans (hst r hr)⟩

/-- A reconfigured station that is not the owner leaves the waiting list (R132, R146). -/
theorem reconfigure_waiter {p : Fin 4} {s : State} (ho : (s.arbiter (s.station p).channel).owner ≠ some p)
    (f : StationFields) :
    WaiterLeaves (s.station p).channel p (s.loserWithout p (s.station p).channel) s (reconfigure p f s) := by
  have hleave : leaveActive p false s = leaveWaiting (s.station p).channel p (s.modStation p Station.leaving) :=
    (leaveActive_eq p false s).trans (if_neg ho)
  refine ⟨?_, ?_, fun r hr => ?_⟩
  · rw [reconfigure_channel, hleave, leaveWaiting_channel, State.modStation_channel]
  · rw [reconfigure_arbiter, hleave, leaveWaiting_arbiter, State.modStation_arbiter]
    rfl
  · rw [reconfigure_station, if_neg hr, hleave, leaveWaiting_station, State.modStation_other s hr]

/-- The response of the command shows the record that the state holds. -/
theorem OwnerDeparts.respond {c : ChannelId} {p : Fin 4} {loser : Option (Fin 4)} {s t : State}
    (h : OwnerDeparts c p loser s t) (status : Status) (echo : Byte) (payload : Payload) :
    OwnerDeparts c p loser s (t.respond status echo payload) := by
  unfold OwnerDeparts at h ⊢
  simpa only [State.respond_channel, State.respond_arbiter, State.respond_station, targetFor_respond] using h

/-- The device-wide settings have no part in a departure. -/
theorem OwnerDeparts.of_resettled {c : ChannelId} {p : Fin 4} {loser : Option (Fin 4)} {s t : State} {f : StationFields}
    (h : OwnerDeparts c p loser (s.resettled f) t) : OwnerDeparts c p loser s t := by
  have hsame := successor_congr (s := s) (t := s.resettled f) (fun _ => ⟨rfl, rfl⟩) (s.arbiter c).lastLoser
    (s.arbiter c).waiting
  have harb : (s.resettled f).arbiter c = s.arbiter c := rfl
  unfold OwnerDeparts at h ⊢
  rw [harb] at h
  simp only [hsame] at h
  exact h

/-- Sections 8.5, 8.1, 9.1, 9.5 and 9.6. Settles O30. -/
theorem stationSetReconfigures : Obligations.StationSetReconfigures := by
  intro st f s hf hs run absent badValue lapse hand
  have hrun : run = .next (conclude 0x40 (onPort st (setStation f) s)) := exec_stationSet hf hs
  have hlapse : (s.resettled f).lapseTime = lapse := clampedField_eq 50 1000 s.lapseTime f.lapseTime
  have hhand : (s.resettled f).handOff = hand := clampedField_zero 5000 s.handOff f.handOff
  rw [hrun]
  clear_value lapse hand
  subst hlapse hhand
  refine ⟨fun hbad => ?refused, fun p hp hfield hbad hrole hch hrank => ?settings,
    fun p hp hx hbad hfield => ?reconfigured⟩
  case refused =>
    rcases hbad with hno | hbad
    · rw [onPort_none hno, conclude_refuse]
    · cases hport : toPort st with
      | none => rw [onPort, hport, conclude_refuse]
      | some p =>
        rw [onPort, hport]
        exact congrArg (fun x => Host.Outcome.next (conclude 0x40 x)) (setStation_refused hbad p s)
  case settings =>
    subst hp
    have hno : f.reconfigures = false := (reconfigures_eq_false_iff f).mpr ⟨hrole, hch, hrank⟩
    rw [onPort_some, setStation_taken hfield hbad, hno]
    rfl
  case reconfigured =>
    subst hp
    have hyes : f.reconfigures = true := by
      rw [← Bool.not_eq_false, reconfigures_eq_false_iff]
      rintro ⟨h1, h2, h3⟩
      exact hfield.elim (fun h => h h1) fun h => h.elim (fun h => h h2) fun h => h h3
    have hsome : f ≠ ⟨none, none, none, none, none⟩ := by
      rintro rfl
      exact hfield.elim (fun h => h rfl) fun h => h.elim (fun h => h rfl) fun h => h rfl
    rw [onPort_some, setStation_taken hsome hbad, hyes]
    dsimp only
    rw [if_pos rfl, conclude_okay]
    have honly := arbitersOnly_reconfigure p f (s.resettled f)
    have hrecord : (reconfigure p f (s.resettled f)).station p = (s.station p).leaving.configured f :=
      (reconfigure_station p f (s.resettled f) p).trans (if_pos rfl)
    have hsettings := honly.settings
    have hlink := honly.link
    refine ⟨_, (s.station p).leaving.configured f, rfl, ?_, ?_, ?_, ?_, ⟨fun ho => ?_, fun ho => ?_, fun d hd => ?_⟩, ?_, ?_⟩
    · rw [State.respond_station, hrecord]
    · have hrole := roleAfter_eq hbad (s.station p).role
      have hchannel := channelAfter_eq hbad (s.station p).channel
      have hrank := clampedField_zero 15 (s.station p).rank f.rank
      unfold Station.configured Station.leaving
      dsimp only
      rw [hrole, hchannel, hrank] <;> rfl
    · exact hsettings.1
    · exact hsettings.2
    · exact ((reconfigure_owner (s := s.resettled f) hx ho f).of_resettled).respond _ _ _
    · have hleaves := reconfigure_waiter (s := s.resettled f) ho f
      obtain ⟨h1, h2, h3⟩ := hleaves
      exact ⟨h1, h2, h3⟩
    · obtain ⟨h1, h2⟩ := leaveActive_otherChannel (s := s.resettled f) hd false
      rw [State.respond_channel, State.respond_arbiter, reconfigure_channel, reconfigure_arbiter, h1, h2]
      exact ⟨rfl, rfl⟩
    · rw [State.respond_link, hlink, hrecord, hsettings.1, hsettings.2]
      rfl
    · unfold State.respond
      rw [honly]
      rfl

end Sys2Proof.Machine
end

section
/-! PROOF. Rows and places of a story (R44, R75): where a line begins, and which place of the story lies a given distance
from its top. -/

namespace Sys2Proof.Machine

/-! ## Heights -/

theorem HeightsBounded.bounds {h : Heights} (hb : HeightsBounded h) :
    (∀ cls, 8 ≤ h.of cls) ∧ 16 ≤ h.slugBand := by
  have h1 := clampNat_bounds (lo := 8) (hi := 96) (by omega) h.small
  have h2 := clampNat_bounds (lo := 8) (hi := 96) (by omega) h.standard
  have h3 := clampNat_bounds (lo := 8) (hi := 96) (by omega) h.large
  have h4 := clampNat_bounds (lo := 8) (hi := 96) (by omega) h.spacer
  have h5 := clampNat_bounds (lo := 16) (hi := 96) (by omega) h.slugBand
  have e1 : clampNat 8 96 h.small = h.small := congrArg Heights.small hb
  have e2 : clampNat 8 96 h.standard = h.standard := congrArg Heights.standard hb
  have e3 : clampNat 8 96 h.large = h.large := congrArg Heights.large hb
  have e4 : clampNat 8 96 h.spacer = h.spacer := congrArg Heights.spacer hb
  have e5 : clampNat 16 96 h.slugBand = h.slugBand := congrArg Heights.slugBand hb
  refine ⟨fun cls => ?_, by omega⟩
  cases cls <;> simp only [Heights.of] <;> omega

/-- Every index of a story is at least 8 rows high. -/
theorem Story.heightAt_ge (st : Story) {h : Heights} (hb : HeightsBounded h) {k : Nat} (hk : k ≤ st.n) :
    8 ≤ st.heightAt h k := by
  obtain ⟨hline, hslug⟩ := hb.bounds
  by_cases h0 : k = 0
  · rw [h0, Story.heightAt, if_pos rfl]
    omega
  · have hlt : k - 1 < st.lines.length := by unfold Story.n at hk; omega
    rw [heightAt_eq (Nat.pos_of_ne_zero h0) (List.getElem?_eq_getElem hlt)]
    exact hline _

/-! ## Rows -/

/-- The line after index k begins where index k ends (R75). -/
theorem Story.firstRow_succ (st : Story) (h : Heights) {k : Nat} (hk : k ≤ st.n) :
    st.firstRow h (k + 1) = st.rowOf h k (st.heightAt h k) := by
  by_cases h0 : k = 0
  · subst h0
    simp [Story.firstRow, Story.rowOf, Story.heightAt, linesHeight]
  · have hlt : k - 1 < st.lines.length := by unfold Story.n at hk; omega
    have htake : st.lines.take k = st.lines.take (k - 1) ++ [st.lines[k - 1]] := by
      have := List.take_append_getElem hlt
      rw [Nat.sub_add_cancel (Nat.pos_of_ne_zero h0)] at this
      exact this.symm
    rw [heightAt_eq (Nat.pos_of_ne_zero h0) (List.getElem?_eq_getElem hlt), Story.rowOf, if_neg h0, Story.firstRow,
      Story.firstRow, Nat.add_sub_cancel, htake, linesHeight_append]
    simp [linesHeight]
    omega

/-- Rows within one index follow each other. -/
theorem Story.rowOf_add (st : Story) (h : Heights) (k o d : Nat) : st.rowOf h k (o + d) = st.rowOf h k o + d := by
  unfold Story.rowOf
  split <;> omega

theorem Story.rowOf_zero_succ (st : Story) (h : Heights) (k : Nat) : st.rowOf h (k + 1) 0 = st.firstRow h (k + 1) := by
  rw [Story.rowOf, if_neg (Nat.succ_ne_zero k), Nat.add_zero]

/-- The top of an index, in one expression. -/
theorem Story.rowOf_top (st : Story) (h : Heights) {k : Nat} (hk : k ≤ st.n) :
    st.rowOf h (k + 1) 0 = st.rowOf h k 0 + st.heightAt h k := by
  rw [st.rowOf_zero_succ, st.firstRow_succ h hk, ← st.rowOf_add, Nat.zero_add]

/-- The story ends where its last index ends (R28). -/
theorem Story.rowOf_end (st : Story) (h : Heights) : st.rowOf h st.n (st.heightAt h st.n) = geometryOf h st.lines := by
  rw [← st.firstRow_succ h (Nat.le_refl _), Story.firstRow, Nat.add_sub_cancel, Story.n, List.take_length, geometryOf]

theorem Story.rowOf_eq (st : Story) (h : Heights) (k o : Nat) : st.rowOf h k o = st.rowOf h k 0 + o := by
  rw [← st.rowOf_add, Nat.zero_add]

/-- A higher index begins lower down. -/
theorem Story.rowOf_mono (st : Story) (h : Heights) {k m : Nat} (hkm : k ≤ m) (hm : m ≤ st.n + 1) :
    st.rowOf h k 0 ≤ st.rowOf h m 0 := by
  induction hkm with
  | refl => exact Nat.le_refl _
  | @step m _ ih =>
    rw [st.rowOf_top h (by omega)]
    exact Nat.le_trans (ih (by omega)) (Nat.le_add_right _ _)

/-- A place inside the story lies above its end. -/
theorem Story.rowOf_lt (st : Story) (h : Heights) {k o : Nat} (hk : k ≤ st.n) (ho : o < st.heightAt h k) :
    st.rowOf h k o < geometryOf h st.lines := by
  have htop := st.rowOf_top h hk
  have hmono := st.rowOf_mono h (Nat.succ_le_succ hk) (Nat.le_refl _)
  have hend := st.rowOf_top h (Nat.le_refl st.n)
  have hlast := st.rowOf_end h
  rw [st.rowOf_eq h k o]
  rw [st.rowOf_eq h st.n] at hlast
  simp only [Nat.succ_eq_add_one] at hmono
  omega

/-! ## The place at a row (R75) -/

theorem lineAtRow_spec (h : Heights) (ls : List Line) : ∀ k x, x < linesHeight h ls →
    ∃ i l, ls[i]? = some l ∧ lineAtRow h k x ls = (k + i, x - linesHeight h (ls.take i)) ∧ linesHeight h (ls.take i) ≤ x
      ∧ x < linesHeight h (ls.take i) + l.height h := by
  induction ls with
  | nil => intro k x hx; exact absurd hx (Nat.not_lt_zero x)
  | cons l ls ih =>
    intro k x hx
    by_cases hlt : x < l.height h
    · exact ⟨0, l, rfl, by simp [lineAtRow, hlt, linesHeight], Nat.zero_le _, by simpa [linesHeight] using hlt⟩
    · have hrest : x - l.height h < linesHeight h ls := by
        simp only [linesHeight, List.map_cons, List.sum_cons] at hx ⊢
        omega
      obtain ⟨i, m, hm, heq, hle, hin⟩ := ih (k + 1) (x - l.height h) hrest
      have htake : linesHeight h ((l :: ls).take (i + 1)) = l.height h + linesHeight h (ls.take i) := by
        simp [linesHeight]
      refine ⟨i + 1, m, hm, ?_, ?_, ?_⟩
      · rw [lineAtRow, if_neg hlt, heq, htake, Nat.sub_sub]
        simp only [Prod.mk.injEq, and_true]
        omega
      · rw [htake]
        omega
      · rw [htake]
        omega

/-- The place at a row of the story lies inside it, at that row. -/
theorem Story.pointAtRow_spec (st : Story) (h : Heights) {r : Nat} (hr : r < geometryOf h st.lines) :
    (st.pointAtRow h r).1 ≤ st.n ∧ (st.pointAtRow h r).2 < st.heightAt h (st.pointAtRow h r).1
      ∧ st.rowOf h (st.pointAtRow h r).1 (st.pointAtRow h r).2 = r := by
  unfold Story.pointAtRow
  split
  · rename_i hlt
    exact ⟨Nat.zero_le _, by rwa [Story.heightAt, if_pos rfl], rfl⟩
  · rename_i hge
    rw [geometryOf] at hr
    obtain ⟨i, l, hl, heq, hle, hin⟩ := lineAtRow_spec h st.lines 1 (r - h.slugBand) (by omega)
    have hi : i < st.lines.length := (List.getElem?_eq_some_iff.mp hl).1
    rw [heq]
    simp only
    rw [heightAt_eq (k := 1 + i) (by omega) (by rwa [Nat.add_sub_cancel_left]), Story.rowOf, if_neg (by omega),
      Story.firstRow, Nat.add_sub_cancel_left]
    refine ⟨by unfold Story.n; omega, by omega, by omega⟩

/-! ## Distances -/

/-- A place inside the story is less than the height of the story from its top. -/
theorem Story.distance_lt {st : Story} {h : Heights} {rp : ReadPoint} (hrp : st.holds h rp) :
    st.distance h rp < 256 * geometryOf h st.lines := by
  obtain ⟨-, hk, ho, hf⟩ := hrp
  have := st.rowOf_lt h hk ho
  unfold Story.distance
  omega

/-- The last place of a story lies inside it (R56). -/
theorem Story.lastPoint_holds (st : Story) {h : Heights} (hb : HeightsBounded h) : st.holds h (st.lastPoint h) := by
  have := st.heightAt_ge hb (Nat.le_refl st.n)
  exact ⟨rfl, Nat.le_refl _, by simp only [Story.lastPoint]; omega, Nat.le_refl _⟩

/-- The first place of a story lies inside it (R57). -/
theorem Story.firstPoint_holds (st : Story) {h : Heights} (hb : HeightsBounded h) : st.holds h ⟨st.id, 0, 0, 0⟩ := by
  have := st.heightAt_ge hb (Nat.zero_le st.n)
  exact ⟨rfl, Nat.zero_le _, by simp only; omega, Nat.zero_le _⟩

end Sys2Proof.Machine
end

section
/-! PROOF. One step update of a channel, by the distance of its read point from the top of its story (R76 to R79). -/

namespace Sys2Proof.Machine

section

variable {s : State} {c : ChannelId} {rp : ReadPoint} {st : Story} {units : Nat}
  {h : Heights} (hh : s.heights = h) (hrp : (s.channel c).readPoint = some rp) (hst : s.story? rp.story = some st)
  (hin : st.holds h rp) (hb : HeightsBounded h) (hunits : units ≤ 1023)

/-- The lines of a story whose first row lies within a forward movement (R79). -/
def Story.Reaches (st : Story) (h : Heights) (b u : Nat) (k : Nat) : Prop :=
  1 ≤ k ∧ k ≤ st.n ∧ b < 256 * st.firstRow h k ∧ 256 * st.firstRow h k ≤ u

/-- A line that begins at or above a place does not begin after it. -/
theorem Story.firstRow_le_of_le {h : Heights} {k m : Nat} (hm1 : 1 ≤ m) (hmk : m ≤ k) (hk : k ≤ st.n + 1) :
    st.firstRow h m ≤ st.rowOf h k 0 := by
  obtain ⟨m, rfl⟩ := Nat.exists_eq_add_of_le' hm1
  rw [← st.rowOf_zero_succ]
  exact st.rowOf_mono h hmk hk

theorem Story.le_firstRow_of_lt {h : Heights} {k m : Nat} (hkm : k < m) (hm : m ≤ st.n + 1) :
    st.rowOf h k 0 + st.heightAt h k ≤ st.firstRow h m := by
  obtain ⟨m, rfl⟩ := Nat.exists_eq_add_of_le' (Nat.one_le_of_lt hkm)
  rw [← st.rowOf_zero_succ, ← st.rowOf_top h (by omega)]
  exact st.rowOf_mono h hkm hm

include hh hrp hst hin hb hunits

/-- A forward update that stays in the story: the read point moves by exactly the update, and the line it reaches, if
there is one, is reported. -/
theorem stepForward_within (hend : st.distance h rp + units < 256 * geometryOf h st.lines) :
    ∃ rp', st.holds h rp' ∧ st.distance h rp' = st.distance h rp + units
      ∧ ((stepForward c units s = movedForward c (s.place c rp')
          ∧ ∀ k, ¬st.Reaches h (st.distance h rp) (st.distance h rp + units) k)
        ∨ ∃ k, stepForward c units s = reportLine c st.id k (movedForward c (s.place c rp'))
          ∧ st.Reaches h (st.distance h rp) (st.distance h rp + units) k
          ∧ ∀ m, st.Reaches h (st.distance h rp) (st.distance h rp + units) m → m = k) := by
  subst hh
  obtain ⟨hid, hk, ho, hf⟩ := hin
  have hrow := st.rowOf_eq s.heights rp.k rp.o
  have hhigh := st.heightAt_ge hb hk
  simp only [stepForward, hrp, hst]
  unfold Story.distance at *
  by_cases hstay : rp.o + (rp.frac + units) / 256 < st.heightAt s.heights rp.k
  · rw [if_pos hstay]
    refine ⟨⟨st.id, rp.k, rp.o + (rp.frac + units) / 256, (rp.frac + units) % 256⟩, ⟨rfl, hk, hstay, ?_⟩, ?_,
      .inl ⟨rfl, fun k ⟨hk1, hkn, hlo, hhi⟩ => ?_⟩⟩
    · simp only
      omega
    · simp only
      rw [st.rowOf_eq s.heights rp.k (rp.o + _)]
      omega
    · by_cases hle : k ≤ rp.k
      · have := Story.firstRow_le_of_le (st := st) (h := s.heights) hk1 hle (by omega)
        omega
      · have := Story.le_firstRow_of_lt (st := st) (h := s.heights) (Nat.lt_of_not_le hle) (by omega)
        omega
  · rw [if_neg hstay]
    have hnext : rp.k < st.n := by
      refine Classical.byContradiction fun hlast => ?_
      obtain hkn : rp.k = st.n := by omega
      have hlen := st.rowOf_end s.heights
      rw [st.rowOf_eq, ← hkn] at hlen
      omega
    rw [if_pos hnext]
    have hhigh' := st.heightAt_ge hb (Nat.succ_le_of_lt hnext)
    have htop := st.rowOf_top s.heights hk
    have hfirst := st.rowOf_zero_succ s.heights rp.k
    simp only [Nat.succ_eq_add_one] at hhigh'
    refine ⟨⟨st.id, rp.k + 1, rp.o + (rp.frac + units) / 256 - st.heightAt s.heights rp.k, (rp.frac + units) % 256⟩,
      ⟨rfl, hnext, ?_, ?_⟩, ?_, .inr ⟨rp.k + 1, rfl, ⟨by omega, hnext, ?_, ?_⟩, fun m ⟨hm1, hmn, hlo, hhi⟩ => ?_⟩⟩
    · simp only
      omega
    · simp only
      omega
    · simp only
      rw [st.rowOf_eq s.heights (rp.k + 1)]
      omega
    · omega
    · omega
    · refine Classical.byContradiction fun hne => ?_
      rcases Nat.lt_or_gt_of_ne hne with hlt | hgt
      · have := Story.firstRow_le_of_le (st := st) (h := s.heights) hm1 (Nat.le_of_lt_succ hlt) (by omega)
        omega
      · have := Story.le_firstRow_of_lt (st := st) (h := s.heights) hgt (by omega)
        omega

/-- A forward update that passes the end of the story: it is carried whole into the slug band of the next readable story,
or it clamps. -/
theorem stepForward_past (hend : 256 * geometryOf h st.lines ≤ st.distance h rp + units) :
    (s.readableAfter st.id = [] → stepForward c units s = clampEnd c st true s)
    ∧ ∀ next rest, s.readableAfter st.id = next :: rest → ∃ o frac, o < 8 ∧ frac ≤ 255
      ∧ 256 * geometryOf h st.lines + (256 * o + frac) = st.distance h rp + units
      ∧ stepForward c units s = movedForward c (cross c st.id .forward ⟨next, 0, o, frac⟩ s) := by
  subst hh
  obtain ⟨hid, hk, ho, hf⟩ := hin
  have hrow := st.rowOf_eq s.heights rp.k rp.o
  have hlen := st.rowOf_end s.heights
  rw [st.rowOf_eq] at hlen
  unfold Story.distance at *
  have hlast : rp.k = st.n := by
    refine Classical.byContradiction fun hne => ?_
    have hhigh := st.heightAt_ge hb (Nat.le_refl st.n)
    have hle := st.rowOf_mono s.heights (k := rp.k + 1) (m := st.n) (by omega) (by omega)
    have htop := st.rowOf_top s.heights hk
    omega
  rw [hlast] at hrow ho
  have hpass : ¬rp.o + (rp.frac + units) / 256 < st.heightAt s.heights rp.k := by
    rw [hlast]
    rw [hlast] at hend
    omega
  have hstep : stepForward c units s = match s.readableAfter st.id with
      | [] => clampEnd c st true s
      | next :: _ => movedForward c (cross c st.id .forward
          ⟨next, 0, rp.o + (rp.frac + units) / 256 - st.heightAt s.heights rp.k, (rp.frac + units) % 256⟩ s) := by
    simp only [stepForward, hrp, hst]
    rw [if_neg hpass, if_neg (by omega)] <;> rfl
  refine ⟨fun hnone => by rw [hstep, hnone], fun next rest hnext => ?_⟩
  refine ⟨rp.o + (rp.frac + units) / 256 - st.heightAt s.heights rp.k, (rp.frac + units) % 256, ?_, by omega, ?_,
    by rw [hstep, hnext]⟩
  · rw [hlast]
    omega
  · rw [hlast]
    rw [hlast] at hend
    omega

/-- A backward update that stays in the story: the read point moves back by exactly the update. -/
theorem stepBackward_within (hstart : units ≤ st.distance h rp) :
    ∃ rp', st.holds h rp' ∧ st.distance h rp' + units = st.distance h rp
      ∧ stepBackward c units s = movedBackward c (s.place c rp') := by
  subst hh
  obtain ⟨hid, hk, ho, hf⟩ := hin
  have hrow := st.rowOf_eq s.heights rp.k rp.o
  simp only [stepBackward, hrp, hst]
  unfold Story.distance borrow at *
  by_cases hstay : (units - rp.frac + 255) / 256 ≤ rp.o
  · rw [if_pos hstay]
    refine ⟨⟨st.id, rp.k, rp.o - (units - rp.frac + 255) / 256, rp.frac + 256 * ((units - rp.frac + 255) / 256) - units⟩,
      ⟨rfl, hk, ?_, ?_⟩, ?_, rfl⟩
    · simp only
      omega
    · simp only
      omega
    · simp only
      rw [st.rowOf_eq s.heights rp.k (rp.o - _)]
      omega
  · rw [if_neg hstay]
    have hpos : 0 < rp.k := by
      refine Classical.byContradiction fun h0 => ?_
      obtain h0 : rp.k = 0 := by omega
      rw [h0] at hrow hstart
      simp only [Story.rowOf, if_true] at hrow hstart
      omega
    obtain ⟨k, hk'⟩ := Nat.exists_eq_add_of_le' (show 1 ≤ rp.k from hpos)
    rw [if_pos hpos, hk', Nat.add_sub_cancel]
    have hhigh := st.heightAt_ge hb (show k ≤ st.n by omega)
    have htop := st.rowOf_top s.heights (show k ≤ st.n by omega)
    rw [hk'] at hrow hstart
    refine ⟨⟨st.id, k, st.heightAt s.heights k + rp.o - (units - rp.frac + 255) / 256,
      rp.frac + 256 * ((units - rp.frac + 255) / 256) - units⟩, ⟨rfl, by simp only; omega, ?_, ?_⟩, ?_, rfl⟩
    · simp only
      omega
    · simp only
      omega
    · simp only
      rw [st.rowOf_eq s.heights k (_ - _)]
      omega

/-- A backward update that passes the top of the story: it is carried whole into the last line of the previous readable
story, or it clamps. -/
theorem stepBackward_past (hstart : st.distance h rp < units) :
    (s.readableBefore st.id = [] → stepBackward c units s = clampStart c st true s)
    ∧ ∀ before rest st', s.readableBefore st.id = before :: rest → s.story? before = some st' →
      ∃ rp', st'.holds h rp' ∧ rp'.k = st'.n
        ∧ st'.distance h rp' + units = st.distance h rp + 256 * geometryOf h st'.lines
        ∧ stepBackward c units s = movedBackward c (cross c st.id .backward rp' s) := by
  subst hh
  obtain ⟨hid, hk, ho, hf⟩ := hin
  have hslug := hb.bounds.2
  unfold Story.distance at *
  have hzero : rp.k = 0 := by
    refine Classical.byContradiction fun hne => ?_
    have hfirst := Story.firstRow_le_of_le (st := st) (h := s.heights) (m := 1) (Nat.le_refl _) (Nat.pos_of_ne_zero hne) (by omega)
    have hrow := st.rowOf_eq s.heights rp.k rp.o
    have hone : s.heights.slugBand ≤ st.firstRow s.heights 1 := Nat.le_add_right _ _
    omega
  rw [hzero] at hstart
  simp only [Story.rowOf, if_true] at hstart
  have hpass : ¬borrow rp.frac units ≤ rp.o := by
    unfold borrow
    omega
  have hstep : stepBackward c units s = match s.readableBefore st.id with
      | [] => clampStart c st true s
      | before :: _ => match s.story? before with
        | none => s
        | some st' => movedBackward c (cross c st.id .backward
            ⟨st'.id, st'.n, st'.heightAt s.heights st'.n + rp.o - borrow rp.frac units,
              rp.frac + 256 * borrow rp.frac units - units⟩ s) := by
    simp only [stepBackward, hrp, hst]
    rw [if_neg hpass, if_neg (by omega)] <;> rfl
  refine ⟨fun hnone => by rw [hstep, hnone], fun before rest st' hbefore hst' => ?_⟩
  have hhigh := st'.heightAt_ge hb (Nat.le_refl st'.n)
  have hlen := st'.rowOf_end s.heights
  rw [st'.rowOf_eq] at hlen
  refine ⟨⟨st'.id, st'.n, st'.heightAt s.heights st'.n + rp.o - borrow rp.frac units,
    rp.frac + 256 * borrow rp.frac units - units⟩, ⟨rfl, Nat.le_refl _, ?_, ?_⟩, rfl, ?_, by rw [hstep, hbefore]; simp only [hst']⟩
  · unfold borrow at *
    simp only
    omega
  · unfold borrow at *
    simp only
    omega
  · rw [hzero]
    simp only [Story.rowOf, if_true]
    have hrow := st'.rowOf_eq s.heights st'.n (st'.heightAt s.heights st'.n + rp.o - borrow rp.frac units)
    unfold Story.rowOf at hrow hlen
    unfold borrow at *
    omega

end

end Sys2Proof.Machine
end

section
/-! PROOF. What a movement writes: the channel's record act by act (R53 to R58), and the store and the cue unit, which
look at nothing of the channels (R5 to R11, R114). -/

namespace Sys2Proof.Machine

/-! ## The store and the cue unit -/

/-- The store, the link, the heights and the cue unit of `t` are those of `s`. -/
def SameShow (s t : State) : Prop := SameStore t s ∧ t.cues = s.cues ∧ t.heights = s.heights

theorem SameShow.refl (s : State) : SameShow s s := ⟨⟨rfl, rfl, rfl, rfl⟩, rfl, rfl⟩

theorem SameShow.trans {s t u : State} (h1 : SameShow s t) (h2 : SameShow t u) : SameShow s u := by
  obtain ⟨⟨a1, a2, a3, a4⟩, a5, a6⟩ := h1
  obtain ⟨⟨b1, b2, b3, b4⟩, b5, b6⟩ := h2
  exact ⟨⟨b1.trans a1, b2.trans a2, b3.trans a3, b4.trans a4⟩, b5.trans a5, b6.trans a6⟩

theorem ChannelsOnly.sameShow {s t : State} (h : ChannelsOnly s t) : SameShow s t := by
  rw [h]
  exact .refl _

theorem SameShow.story? {s t : State} (h : SameShow s t) (id : Nat) : t.story? id = s.story? id := by
  rw [State.story?, h.1.1]
  rfl

theorem SameShow.readable {s t : State} (h : SameShow s t) (id : Nat) :
    t.readableAfter id = s.readableAfter id ∧ t.readableBefore id = s.readableBefore id := by
  rw [State.readableAfter, State.readableBefore, h.1.1]
  exact ⟨rfl, rfl⟩

/-- A leave looks at nothing but the store, the link and the lead channel. -/
theorem SameShow.leftBy {s t : State} (h : SameShow s t) (c : ChannelId) (kind : LeaveKind) (id : Nat) :
    SameShow (s.leftBy c kind id) (t.leftBy c kind id) := by
  have hstory := h.story? id
  obtain ⟨⟨h1, h2, h3, h4⟩, h5, h6⟩ := h
  unfold State.leftBy
  rw [hstory, h1, h2, h3, h4, h5]
  split
  · exact ⟨⟨h1, h2, h3, h4⟩, h5, h6⟩
  · dsimp only
    split
    · exact ⟨⟨rfl, rfl, rfl, rfl⟩, rfl, h6⟩
    · exact ⟨⟨rfl, rfl, rfl, rfl⟩, rfl, h6⟩

theorem SameShow.enteredBy {s t : State} (h : SameShow s t) (c : ChannelId) (id : Nat) :
    SameShow (s.enteredBy c id) (t.enteredBy c id) := by
  obtain ⟨⟨h1, h2, h3, h4⟩, h5, h6⟩ := h
  unfold State.enteredBy
  rw [h1]
  exact ⟨⟨rfl, h2, h3, h4⟩, h5, h6⟩

/-- A line report looks at nothing but the store and the cue unit. -/
theorem SameShow.reportLine {s t : State} (h : SameShow s t) (c : ChannelId) (id k : Nat) :
    SameShow (reportLine c id k s) (reportLine c id k t) := by
  have hstory := h.story? id
  unfold Machine.reportLine
  rw [hstory, h.2.1]
  split
  · split
    · exact h
    · split
      · exact h
      · split
        · exact h
        · obtain ⟨⟨h1, h2, h3, h4⟩, h5, h6⟩ := h
          simp only [fireCue, setFired, State.modStory, State.modOutput, h1, h5]
          exact ⟨⟨rfl, h2, h3, h4⟩, rfl, h6⟩
  · exact h

theorem SameShow.reportLines {s t : State} (h : SameShow s t) (c : ChannelId) (id : Nat) (ks : List Nat) :
    SameShow (reportLines c id ks s) (reportLines c id ks t) := by
  unfold Machine.reportLines
  induction ks generalizing s t with
  | nil => exact h
  | cons k ks ih => exact ih (h.reportLine c id k)

theorem sameShow_modChannel (c : ChannelId) (f : Channel → Channel) (s : State) : SameShow s (s.modChannel c f) :=
  (channelsOnly_modChannel c f s).sameShow

theorem sameShow_place (c : ChannelId) (rp : ReadPoint) (s : State) : SameShow s (s.place c rp) :=
  sameShow_modChannel c _ s

/-- A crossing leaves the old story and enters the new one (R53). -/
theorem sameShow_cross (c : ChannelId) (old : Nat) (kind : LeaveKind) (rp : ReadPoint) (s : State) :
    SameShow ((s.leftBy c kind old).enteredBy c rp.story) (cross c old kind rp s) := by
  rw [cross_eq]
  exact (((sameShow_place c rp s).leftBy c kind old).enteredBy c rp.story).trans (sameShow_modChannel c _ _)

/-! ## The channels -/

theorem cross_channel_same (c : ChannelId) (old : Nat) (kind : LeaveKind) (rp : ReadPoint) (s : State) :
    (cross c old kind rp s).channel c = { s.channel c with readPoint := some rp, storyChanged := true } := by
  simp [cross, enter]

theorem cross_channel_other {c d : ChannelId} (hd : d ≠ c) (old : Nat) (kind : LeaveKind) (rp : ReadPoint) (s : State) :
    (cross c old kind rp s).channel d = s.channel d := by
  rw [cross, enter, State.modChannel_other _ hd, State.modStory_channel, leave_channel, State.place_other s hd]

theorem channelsOnly_movedForward (c : ChannelId) (s : State) : ChannelsOnly s (movedForward c s) := by
  unfold movedForward
  split
  · exact (channelsOnly_modChannel c _ s).trans (channelsOnly_recompute c _)
  · exact .refl s

theorem channelsOnly_movedBackward (c : ChannelId) (s : State) : ChannelsOnly s (movedBackward c s) := by
  unfold movedBackward
  split
  · exact (channelsOnly_modChannel c _ s).trans (channelsOnly_recompute c _)
  · exact .refl s

/-- A movement forward clears START, and the clearing recomputes T (R58). -/
theorem movedForward_channel (c : ChannelId) (s : State) : (movedForward c s).channel c = { s.channel c with
    startFlag := false
    target := if (s.channel c).startFlag then targetFor (movedForward c s) c else (s.channel c).target } := by
  unfold movedForward
  split
  · rw [targetFor_recompute, recompute_same, State.modChannel_same]
  · rename_i h
    rw [← Bool.eq_false_iff.mpr h]

/-- A movement backward clears END, and the clearing recomputes T (R58). -/
theorem movedBackward_channel (c : ChannelId) (s : State) : (movedBackward c s).channel c = { s.channel c with
    endFlag := false
    target := if (s.channel c).endFlag then targetFor (movedBackward c s) c else (s.channel c).target } := by
  unfold movedBackward
  split
  · rw [targetFor_recompute, recompute_same, State.modChannel_same]
  · rename_i h
    rw [← Bool.eq_false_iff.mpr h]

theorem movedForward_other {c d : ChannelId} (hd : d ≠ c) (s : State) : (movedForward c s).channel d = s.channel d := by
  unfold movedForward
  split
  · rw [recompute_other hd, State.modChannel_other _ hd]
  · rfl

theorem movedBackward_other {c d : ChannelId} (hd : d ≠ c) (s : State) : (movedBackward c s).channel d = s.channel d := by
  unfold movedBackward
  split
  · rw [recompute_other hd, State.modChannel_other _ hd]
  · rfl

theorem channelsOnly_clampEnd (c : ChannelId) (st : Story) (byStep : Bool) (s : State) :
    ChannelsOnly s (clampEnd c st byStep s) := (channelsOnly_modChannel c _ s).trans (channelsOnly_recompute c _)

theorem channelsOnly_clampStart (c : ChannelId) (st : Story) (byStep : Bool) (s : State) :
    ChannelsOnly s (clampStart c st byStep s) := (channelsOnly_modChannel c _ s).trans (channelsOnly_recompute c _)

/-- The clamp at END (R56, R58). -/
theorem clampEnd_channel (c : ChannelId) (st : Story) (byStep : Bool) (s : State) :
    (clampEnd c st byStep s).channel c = { s.channel c with
      readPoint := some (st.lastPoint s.heights)
      endFlag := true
      endReached := (s.channel c).endReached || !(s.channel c).endFlag
      startFlag := (s.channel c).startFlag && decide ((s.channel c).readPoint = some (st.lastPoint s.heights))
      speed := if byStep then 0 else (s.channel c).speed
      target := targetFor (clampEnd c st byStep s) c } := by
  unfold clampEnd
  dsimp only
  rw [targetFor_recompute, recompute_same, State.modChannel_same]
  simp

/-- The clamp at START (R57, R58). -/
theorem clampStart_channel (c : ChannelId) (st : Story) (byStep : Bool) (s : State) :
    (clampStart c st byStep s).channel c = { s.channel c with
      readPoint := some ⟨st.id, 0, 0, 0⟩
      startFlag := true
      endFlag := (s.channel c).endFlag && decide ((s.channel c).readPoint = some ⟨st.id, 0, 0, 0⟩)
      speed := if byStep then 0 else (s.channel c).speed
      target := targetFor (clampStart c st byStep s) c } := by
  unfold clampStart
  dsimp only
  rw [targetFor_recompute, recompute_same, State.modChannel_same]
  simp

theorem clampEnd_other {c d : ChannelId} (hd : d ≠ c) (st : Story) (byStep : Bool) (s : State) :
    (clampEnd c st byStep s).channel d = s.channel d := by
  unfold clampEnd
  dsimp only
  rw [recompute_other hd, State.modChannel_other _ hd]

theorem clampStart_other {c d : ChannelId} (hd : d ≠ c) (st : Story) (byStep : Bool) (s : State) :
    (clampStart c st byStep s).channel d = s.channel d := by
  unfold clampStart
  dsimp only
  rw [recompute_other hd, State.modChannel_other _ hd]

/-- A line report has no part in T. -/
theorem targetFor_reportLine (c d : ChannelId) (id k : Nat) (s : State) :
    targetFor (reportLine c id k s) d = targetFor s d := by
  have h := movesOnly_reportLine c id k s
  exact targetFor_congr (reportLine_channel c id k s d) (by rw [h]; cases d <;> rfl) (by rw [h])

theorem targetFor_reportLines (c d : ChannelId) (id : Nat) (ks : List Nat) (s : State) :
    targetFor (reportLines c id ks s) d = targetFor s d := by
  unfold reportLines
  induction ks generalizing s with
  | nil => rfl
  | cons k ks ih => exact (ih _).trans (targetFor_reportLine c d id k s)

end Sys2Proof.Machine
end

section
/-! PROOF. A step expiry of a LIVE channel (R51, R54 to R58, R76 to R79). -/

namespace Sys2Proof.Machine

/-! ## Ramp and motion -/

/-- The part with the channel's S after the ramp, before it moves (R71). -/
def ramped (c : ChannelId) (speed : Int) (s : State) : State := s.modChannel c (fun ch => { ch with speed := speed })

theorem ramped_channel (c : ChannelId) (speed : Int) (s : State) :
    (ramped c speed s).channel c = { s.channel c with speed := speed } := State.modChannel_same s c _

theorem ramped_other {c d : ChannelId} (hd : d ≠ c) (speed : Int) (s : State) :
    (ramped c speed s).channel d = s.channel d := State.modChannel_other s hd _

theorem sameShow_ramped (c : ChannelId) (speed : Int) (s : State) : SameShow s (ramped c speed s) :=
  sameShow_modChannel c _ s

/-- The S of a step expiry (R71). -/
def State.rampedSpeed (s : State) (c : ChannelId) : Int := ramp (s.channel c).tuning (s.channel c).speed (s.channel c).target

theorem rampAndMove_forward {c : ChannelId} {s : State} (h : 0 < s.rampedSpeed c) :
    rampAndMove c s = stepForward c (s.rampedSpeed c).toNat (ramped c (s.rampedSpeed c) s) := if_pos h

theorem rampAndMove_backward {c : ChannelId} {s : State} (h : s.rampedSpeed c < 0) :
    rampAndMove c s = stepBackward c (-s.rampedSpeed c).toNat (ramped c (s.rampedSpeed c) s) :=
  (if_neg (by exact Int.not_lt.mpr (Int.le_of_lt h))).trans (if_pos h)

theorem rampAndMove_rest {c : ChannelId} {s : State} (h : s.rampedSpeed c = 0) :
    rampAndMove c s = ramped c (s.rampedSpeed c) s := by
  refine (if_neg ?_).trans (if_neg ?_)
  · exact Int.not_lt.mpr (Int.le_of_eq h)
  · exact Int.not_lt.mpr (Int.le_of_eq h.symm)

/-- S after the ramp stays within the limits of the tuning (R70). -/
theorem rampedSpeed_bounds {s : State} (hs : SpeedsBounded s) (c : ChannelId) :
    -1023 ≤ s.rampedSpeed c ∧ s.rampedSpeed c ≤ 1023 := by
  obtain ⟨⟨-, hvmax, -, hvrev, -⟩, h1, h2, h3, h4, -⟩ := hs.channel c
  have hr := ramp_between (s.channel c).tuning (s.channel c).speed (s.channel c).target
  unfold State.rampedSpeed
  omega

/-! ## A movement within the story -/

/-- Of the channel and the show after a movement within the story (R58, R76 to R79). -/
def StaysInside (c : ChannelId) (s t : State) (st : Story) (b : Nat) (speed : Int) : Prop :=
  t.freeLines = s.freeLines ∧ t.pt = s.pt ∧ t.link = s.link
  ∧ (∀ k, 1 ≤ k → k ≤ st.n → (b : Int) < 256 * st.firstRow s.heights k → 256 * st.firstRow s.heights k ≤ b + speed →
      t.stories = (reportLine c st.id k s).stories ∧ t.cues = (reportLine c st.id k s).cues)
  ∧ ((∀ k, 1 ≤ k → k ≤ st.n → 256 * st.firstRow s.heights k ≤ (b : Int) ∨ b + speed < 256 * st.firstRow s.heights k) →
      t.stories = s.stories ∧ t.cues = s.cues)
  ∧ ∃ rp', st.holds s.heights rp' ∧ (st.distance s.heights rp' : Int) = b + speed
    ∧ t.channel c = { s.channel c with
        readPoint := some rp', speed := speed
        startFlag := (s.channel c).startFlag && !decide (0 < speed)
        endFlag := (s.channel c).endFlag && !decide (speed < 0)
        target := if (0 < speed ∧ (s.channel c).startFlag = true) ∨ (speed < 0 ∧ (s.channel c).endFlag = true) then
            targetFor t c
          else (s.channel c).target }

section

variable {s : State} {c : ChannelId} {rp : ReadPoint} {st : Story}
  (hrp : (s.channel c).readPoint = some rp) (hst : s.story? rp.story = some st) (hin : st.holds s.heights rp)
  (hb : HeightsBounded s.heights) (hspeeds : SpeedsBounded s)

include hrp in
theorem ramped_readPoint (speed : Int) : ((ramped c speed s).channel c).readPoint = some rp := by
  rw [ramped_channel]
  exact hrp

include hrp hst hin hb hspeeds

theorem staysInside_forward (hpos : 0 < s.rampedSpeed c)
    (hend : st.distance s.heights rp + s.rampedSpeed c < 256 * (geometryOf s.heights st.lines : Int)) :
    StaysInside c s (rampAndMove c s) st (st.distance s.heights rp) (s.rampedSpeed c) := by
  have hbound := rampedSpeed_bounds hspeeds c
  obtain ⟨units, hunits⟩ := Int.eq_ofNat_of_zero_le (Int.le_of_lt hpos)
  have hto : (s.rampedSpeed c).toNat = units := by rw [hunits]; rfl
  have hshow := sameShow_ramped c (s.rampedSpeed c) s
  obtain ⟨rp', hin', hdist, hcases⟩ := stepForward_within hshow.2.2 (ramped_readPoint hrp (s.rampedSpeed c))
    ((hshow.story? _).trans hst) hin hb (units := units) (by omega) (by omega)
  have hmoved := channelsOnly_movedForward c ((ramped c (s.rampedSpeed c) s).place c rp')
  have hchannel := movedForward_channel c ((ramped c (s.rampedSpeed c) s).place c rp')
  have hshow' : SameShow s (movedForward c ((ramped c (s.rampedSpeed c) s).place c rp')) :=
    (hshow.trans (sameShow_place c rp' _)).trans hmoved.sameShow
  rw [State.place_same, ramped_channel] at hchannel
  rw [rampAndMove_forward hpos, hto]
  generalize movedForward c ((ramped c (s.rampedSpeed c) s).place c rp') = m at hcases hshow' hchannel
  have hplace (t : State) (ht : targetFor t c = targetFor m c) : m.channel c = { s.channel c with
        readPoint := some rp', speed := s.rampedSpeed c
        startFlag := (s.channel c).startFlag && !decide (0 < s.rampedSpeed c)
        endFlag := (s.channel c).endFlag && !decide (s.rampedSpeed c < 0)
        target := if (0 < s.rampedSpeed c ∧ (s.channel c).startFlag = true)
              ∨ (s.rampedSpeed c < 0 ∧ (s.channel c).endFlag = true) then targetFor t c
          else (s.channel c).target } := by
    rw [hchannel, ht]
    simp [hpos, Int.not_lt.mpr (Int.le_of_lt hpos)]
  have hdist' : (st.distance s.heights rp' : Int) = st.distance s.heights rp + s.rampedSpeed c := by
    have : st.distance s.heights rp' = st.distance s.heights rp + units := hdist
    omega
  have hreach (k : Nat) : st.Reaches s.heights (st.distance s.heights rp)
      (st.distance s.heights rp + units) k ↔ 1 ≤ k ∧ k ≤ st.n
        ∧ (st.distance s.heights rp : Int) < 256 * st.firstRow s.heights k
        ∧ 256 * (st.firstRow s.heights k : Int) ≤ st.distance s.heights rp + s.rampedSpeed c := by
    unfold Story.Reaches
    omega
  rcases hcases with ⟨heq, hnone⟩ | ⟨k, heq, hk, honly⟩
  · obtain ⟨⟨h1, h2, h3, h4⟩, h5, -⟩ := hshow'
    rw [heq]
    exact ⟨h2, h3, h4, fun k hk1 hkn hlo hhi => absurd ((hreach k).mpr ⟨hk1, hkn, hlo, hhi⟩) (hnone k),
      fun _ => ⟨h1, h5⟩, rp', hin', hdist', hplace m rfl⟩
  · have hreported := hshow'.reportLine c st.id k
    obtain ⟨⟨h1, -, -, -⟩, h5, -⟩ := hreported
    obtain ⟨⟨-, h2, h3, h4⟩, -, -⟩ := hshow'
    have hbooks : (reportLine c st.id k m).freeLines = m.freeLines ∧ (reportLine c st.id k m).pt = m.pt
        ∧ (reportLine c st.id k m).link = m.link := by
      rcases reportLine_cases c st.id k m with h | ⟨_, l, o, _, _, _, h⟩ <;> rw [h] <;> exact ⟨rfl, rfl, rfl⟩
    rw [heq]
    refine ⟨hbooks.1.trans h2, hbooks.2.1.trans h3, hbooks.2.2.trans h4, fun m hm1 hmn hlo hhi => ?_, fun hnone => ?_,
      rp', hin', hdist', ?_⟩
    · rw [honly m ((hreach m).mpr ⟨hm1, hmn, hlo, hhi⟩)]
      exact ⟨h1, h5⟩
    · obtain ⟨hk1, hkn, hlo, hhi⟩ := (hreach k).mp hk
      rcases hnone k hk1 hkn with h | h <;> omega
    · rw [reportLine_channel]
      exact hplace _ (targetFor_reportLine c c st.id k m)

theorem staysInside_backward (hneg : s.rampedSpeed c < 0) (hstart : 0 ≤ st.distance s.heights rp + s.rampedSpeed c) :
    StaysInside c s (rampAndMove c s) st (st.distance s.heights rp) (s.rampedSpeed c) := by
  have hbound := rampedSpeed_bounds hspeeds c
  obtain ⟨units, hunits⟩ := Int.eq_ofNat_of_zero_le (show 0 ≤ -s.rampedSpeed c by omega)
  have hto : (-s.rampedSpeed c).toNat = units := by rw [hunits]; rfl
  have hshow := sameShow_ramped c (s.rampedSpeed c) s
  obtain ⟨rp', hin', hdist, heq⟩ := stepBackward_within hshow.2.2 (ramped_readPoint hrp (s.rampedSpeed c))
    ((hshow.story? _).trans hst) hin hb (units := units) (by omega) (by omega)
  have hmoved := channelsOnly_movedBackward c ((ramped c (s.rampedSpeed c) s).place c rp')
  have hchannel := movedBackward_channel c ((ramped c (s.rampedSpeed c) s).place c rp')
  obtain ⟨⟨h1, h2, h3, h4⟩, h5, -⟩ := (hshow.trans (sameShow_place c rp' _)).trans hmoved.sameShow
  have hdist' : st.distance s.heights rp' + units = st.distance s.heights rp := hdist
  rw [State.place_same, ramped_channel] at hchannel
  rw [rampAndMove_backward hneg, hto, heq]
  refine ⟨h2, h3, h4, fun k _ _ hlo hhi => by omega, fun _ => ⟨h1, h5⟩, rp', hin', by omega, ?_⟩
  rw [hchannel]
  simp [hneg, Int.not_lt.mpr (Int.le_of_lt hneg)]

theorem staysInside (hstart : 0 ≤ st.distance s.heights rp + s.rampedSpeed c)
    (hend : st.distance s.heights rp + s.rampedSpeed c < 256 * (geometryOf s.heights st.lines : Int)) :
    StaysInside c s (rampAndMove c s) st (st.distance s.heights rp) (s.rampedSpeed c) := by
  rcases Int.lt_trichotomy (s.rampedSpeed c) 0 with hneg | hzero | hpos
  · exact staysInside_backward hrp hst hin hb hspeeds hneg hstart
  · obtain ⟨⟨h1, h2, h3, h4⟩, h5, -⟩ := sameShow_ramped c (s.rampedSpeed c) s
    rw [rampAndMove_rest hzero]
    refine ⟨h2, h3, h4, fun k _ _ hlo hhi => by omega, fun _ => ⟨h1, h5⟩, rp, hin, by omega, ?_⟩
    rw [ramped_channel]
    simp [hzero, ← hrp]
  · exact staysInside_forward hrp hst hin hb hspeeds hpos hend

end

end Sys2Proof.Machine
end

section
/-! PROOF. The edges of a story at a step expiry (R54 to R58), and the readable stories around one (R54, R55). -/

namespace Sys2Proof.Machine

/-! ## The readable stories around a story -/

theorem readable_eq : Story.readable = fun x => decide (x.floated = false ∧ x.air ≠ .doomed) := by
  funext x
  cases hf : x.floated <;> cases ha : x.air <;> simp [Story.readable, hf, ha]

theorem takeWhile_of_split {before after : List Story} {st : Story} (hbefore : ∀ x ∈ before, x.id ≠ st.id) :
    (before ++ st :: after).takeWhile (fun x => x.id != st.id) = before := by
  rw [List.takeWhile_append_of_pos (fun x hx => by simpa using hbefore x hx)]
  simp

/-- Without two stories of one ID, no story before another has its ID. -/
theorem before_ne_of_distinct {s : State} {before after : List Story} {st : Story} (h : s.stories = before ++ st :: after)
    (hd : StoriesDistinct s) : ∀ x ∈ before, x.id ≠ st.id := by
  intro x hx hid
  have hnodup := hd.1
  rw [h, List.map_append, List.map_cons, List.nodup_append] at hnodup
  exact hnodup.2.2 x.id (List.mem_map_of_mem hx) st.id List.mem_cons_self hid

theorem readableAfter_of_split {s : State} {before after : List Story} {st : Story} (h : s.stories = before ++ st :: after)
    (hd : StoriesDistinct s) : s.readableAfter st.id = (after.filter Story.readable).map Story.id := by
  have hafter := storiesAfter_of_split h (before_ne_of_distinct h hd)
  rw [State.storiesAfter] at hafter
  rw [State.readableAfter, hafter]

theorem readableBefore_of_split {s : State} {before after : List Story} {st : Story} (h : s.stories = before ++ st :: after)
    (hd : StoriesDistinct s) : s.readableBefore st.id = (before.reverse.filter Story.readable).map Story.id := by
  rw [State.readableBefore, h, takeWhile_of_split (before_ne_of_distinct h hd)]

/-! ## The other channel -/

theorem stepForward_other {c d : ChannelId} (hd : d ≠ c) (units : Nat) (s : State) :
    (stepForward c units s).channel d = s.channel d := by
  unfold stepForward
  split
  · rfl
  · split
    · rfl
    · dsimp only
      split
      · rw [movedForward_other hd, State.place_other s hd]
      · split
        · rw [reportLine_channel, movedForward_other hd, State.place_other s hd]
        · split
          · exact clampEnd_other hd _ _ s
          · rw [movedForward_other hd, cross_channel_other hd]

theorem stepBackward_other {c d : ChannelId} (hd : d ≠ c) (units : Nat) (s : State) :
    (stepBackward c units s).channel d = s.channel d := by
  unfold stepBackward
  split
  · rfl
  · split
    · rfl
    · dsimp only
      split
      · rw [movedBackward_other hd, State.place_other s hd]
      · split
        · rw [movedBackward_other hd, State.place_other s hd]
        · split
          · exact clampStart_other hd _ _ s
          · split
            · rfl
            · rw [movedBackward_other hd, cross_channel_other hd]

theorem rampAndMove_other {c d : ChannelId} (hd : d ≠ c) (s : State) : (rampAndMove c s).channel d = s.channel d := by
  rcases Int.lt_trichotomy (s.rampedSpeed c) 0 with hneg | hzero | hpos
  · rw [rampAndMove_backward hneg, stepBackward_other hd, ramped_other hd]
  · rw [rampAndMove_rest hzero, ramped_other hd]
  · rw [rampAndMove_forward hpos, stepForward_other hd, ramped_other hd]

/-! ## Past the edges -/

/-- A crossing leaves the cue unit as it was. -/
theorem leftBy_enteredBy_cues (s : State) (c : ChannelId) (kind : LeaveKind) (old new : Nat) :
    ((s.leftBy c kind old).enteredBy c new).cues = s.cues := by
  show (s.leftBy c kind old).cues = s.cues
  rw [State.leftBy_frame]

section

variable {s : State} {c : ChannelId} {rp : ReadPoint} {st : Story}
  (hrp : (s.channel c).readPoint = some rp) (hst : s.story? rp.story = some st) (hin : st.holds s.heights rp)
  (hb : HeightsBounded s.heights) (hspeeds : SpeedsBounded s)

include hrp hst hin hb hspeeds

/-- A step that passes the end of the story. -/
theorem rampAndMove_pastEnd (hend : 256 * (geometryOf s.heights st.lines : Int) ≤ st.distance s.heights rp + s.rampedSpeed c) :
    (s.readableAfter st.id = [] →
      rampAndMove c s = clampEnd c st true (ramped c (s.rampedSpeed c) s))
    ∧ ∀ next rest, s.readableAfter st.id = next :: rest → ∃ o frac : Nat, o < 8 ∧ frac ≤ 255
      ∧ (256 * o + frac : Int) = st.distance s.heights rp + s.rampedSpeed c - 256 * geometryOf s.heights st.lines
      ∧ rampAndMove c s = movedForward c (cross c st.id .forward ⟨next, 0, o, frac⟩ (ramped c (s.rampedSpeed c) s)) := by
  have hbound := rampedSpeed_bounds hspeeds c
  have hlt := Story.distance_lt hin
  have hpos : 0 < s.rampedSpeed c := by omega
  obtain ⟨units, hunits⟩ := Int.eq_ofNat_of_zero_le (Int.le_of_lt hpos)
  have hto : (s.rampedSpeed c).toNat = units := by rw [hunits]; rfl
  have hshow := sameShow_ramped c (s.rampedSpeed c) s
  obtain ⟨hclamp, hcross⟩ := stepForward_past hshow.2.2 (ramped_readPoint hrp (s.rampedSpeed c))
    ((hshow.story? _).trans hst) hin hb (units := units) (by omega) (by omega)
  rw [(hshow.readable st.id).1] at hclamp hcross
  rw [rampAndMove_forward hpos, hto]
  refine ⟨hclamp, fun next rest hnext => ?_⟩
  obtain ⟨o, frac, ho, hf, hdist, heq⟩ := hcross next rest hnext
  exact ⟨o, frac, ho, hf, by omega, heq⟩

/-- A step that passes the top of the story. -/
theorem rampAndMove_pastStart (hstart : st.distance s.heights rp + s.rampedSpeed c < 0) :
    (s.readableBefore st.id = [] →
      rampAndMove c s = clampStart c st true (ramped c (s.rampedSpeed c) s))
    ∧ ∀ before rest st', s.readableBefore st.id = before :: rest → s.story? before = some st' →
      ∃ rp', st'.holds s.heights rp' ∧ rp'.k = st'.n
      ∧ (st'.distance s.heights rp' : Int)
          = st.distance s.heights rp + s.rampedSpeed c + 256 * geometryOf s.heights st'.lines
      ∧ rampAndMove c s = movedBackward c (cross c st.id .backward rp' (ramped c (s.rampedSpeed c) s)) := by
  have hbound := rampedSpeed_bounds hspeeds c
  have hneg : s.rampedSpeed c < 0 := by omega
  obtain ⟨units, hunits⟩ := Int.eq_ofNat_of_zero_le (show 0 ≤ -s.rampedSpeed c by omega)
  have hto : (-s.rampedSpeed c).toNat = units := by rw [hunits]; rfl
  have hshow := sameShow_ramped c (s.rampedSpeed c) s
  obtain ⟨hclamp, hcross⟩ := stepBackward_past hshow.2.2 (ramped_readPoint hrp (s.rampedSpeed c))
    ((hshow.story? _).trans hst) hin hb (units := units) (by omega) (by omega)
  rw [(hshow.readable st.id).2] at hclamp hcross
  rw [rampAndMove_backward hneg, hto]
  refine ⟨hclamp, fun before rest st' hbefore hst' => ?_⟩
  obtain ⟨rp', hin', hlast, hdist, heq⟩ := hcross before rest st' hbefore ((hshow.story? _).trans hst')
  exact ⟨rp', hin', hlast, by omega, heq⟩

end

/-- The channel and the show after a movement forward into another story (R53, R58). -/
theorem movedForward_cross {c : ChannelId} {speed : Int} {old : Nat} {rp : ReadPoint} {s : State} :
    let t := movedForward c (cross c old .forward rp (ramped c speed s))
    SameStore t ((s.leftBy c .forward old).enteredBy c rp.story) ∧ t.cues = s.cues
    ∧ t.channel c = { s.channel c with
        readPoint := some rp, speed := speed, storyChanged := true, startFlag := false
        target := if (s.channel c).startFlag then targetFor t c else (s.channel c).target } := by
  have hshow := ((((sameShow_ramped c speed s).leftBy c .forward old).enteredBy c rp.story).trans
    (sameShow_cross c old .forward rp _)).trans (channelsOnly_movedForward c _).sameShow
  have hchannel := movedForward_channel c (cross c old .forward rp (ramped c speed s))
  rw [cross_channel_same, ramped_channel] at hchannel
  exact ⟨hshow.1, hshow.2.1.trans (leftBy_enteredBy_cues s c _ old _), hchannel⟩

/-- The channel and the show after a movement backward into another story (R53, R58). -/
theorem movedBackward_cross {c : ChannelId} {speed : Int} {old : Nat} {rp : ReadPoint} {s : State} :
    let t := movedBackward c (cross c old .backward rp (ramped c speed s))
    SameStore t ((s.leftBy c .backward old).enteredBy c rp.story) ∧ t.cues = s.cues
    ∧ t.channel c = { s.channel c with
        readPoint := some rp, speed := speed, storyChanged := true, endFlag := false
        target := if (s.channel c).endFlag then targetFor t c else (s.channel c).target } := by
  have hshow := ((((sameShow_ramped c speed s).leftBy c .backward old).enteredBy c rp.story).trans
    (sameShow_cross c old .backward rp _)).trans (channelsOnly_movedBackward c _).sameShow
  have hchannel := movedBackward_channel c (cross c old .backward rp (ramped c speed s))
  rw [cross_channel_same, ramped_channel] at hchannel
  exact ⟨hshow.1, hshow.2.1.trans (leftBy_enteredBy_cues s c _ old _), hchannel⟩

/-- Sections 4.2, 4.3, 4.4, 3.3, 3.4, 3.5, 1.3, 1.4, 7.3 and 10.3. Settles O40. -/
theorem aStepMovesTheReadPointBySpeed : Obligations.AStepMovesTheReadPointBySpeed := by
  refine ⟨fun c s rp st htimer hlive hrp hst hin hgeometry hspeeds _ => ?step, fun s before after st h hd => ?around⟩
  case step =>
    have hb := hgeometry.1
    have hg (id : Nat) (x : Story) (hx : s.story? id = some x) : x.g = geometryOf s.heights x.lines :=
      hgeometry.2.1 x (State.story?_mem hx)
    have hexec : exec (.channelStepExpiry c) s = .next (handFrames c (rampAndMove c s)) := by
      show Host.Outcome.next (channelStep c s) = _
      rw [channelStep, if_neg (by simp [htimer]), if_pos hlive]
    have hmoves := movesOnly_rampAndMove c s
    have hheads (h : Fin 4) : (rampAndMove c s).head h = s.head h := by rw [hmoves]; rfl
    obtain ⟨hdetached, hidle, hbusy⟩ := handFrames_heads c (rampAndMove c s)
    simp only [hheads] at hdetached hidle hbusy
    rw [hexec, hg _ _ hst]
    refine ⟨_, rfl, fun hzero => ?rest, fun hstart hend => ?within, fun next rest st' hend hnext hst' => ?next,
      fun before rest st' hstart hbefore hst' => ?before, fun hend hnone => ?clamp_end, fun hstart hnone => ?clamp_start,
      fun d hd => rampAndMove_other hd s, hdetached, hidle, hbusy, ?frame⟩
    case rest =>
      show (rampAndMove c s).channel c = _
      rw [rampAndMove_rest hzero, ramped_channel]
      exact congrArg (fun x => { s.channel c with speed := x }) hzero
    case within => exact staysInside hrp hst hin hb hspeeds hstart hend
    case next =>
      obtain ⟨o, frac, ho, hf, hdist, heq⟩ := (rampAndMove_pastEnd hrp hst hin hb hspeeds hend).2 next rest hnext
      obtain ⟨hstore, hcues, hchannel⟩ := movedForward_cross (c := c) (speed := s.rampedSpeed c) (old := st.id)
        (rp := ⟨next, 0, o, frac⟩) (s := s)
      rw [← heq] at hstore hcues hchannel
      have hhigh := st'.heightAt_ge hb (Nat.zero_le st'.n)
      refine ⟨hstore, hcues, ⟨next, 0, o, frac⟩, ⟨(State.story?_id hst').symm, Nat.zero_le _, ?_, hf⟩, rfl, ?_, hchannel⟩
      · simp only
        omega
      · rw [show st'.distance s.heights ⟨next, 0, o, frac⟩ = 256 * o + frac from rfl]
        exact hdist
    case before =>
      obtain ⟨rp', hin', hlast, hdist, heq⟩ :=
        (rampAndMove_pastStart hrp hst hin hb hspeeds hstart).2 before rest st' hbefore hst'
      obtain ⟨hstore, hcues, hchannel⟩ := movedBackward_cross (c := c) (speed := s.rampedSpeed c) (old := st.id)
        (rp := rp') (s := s)
      rw [← heq] at hstore hcues hchannel
      rw [hin'.1, State.story?_id hst'] at hstore
      refine ⟨hstore, hcues, rp', hin', hlast, ?_, hchannel⟩
      rw [hg _ _ hst']
      exact hdist
    case clamp_end =>
      have heq := (rampAndMove_pastEnd hrp hst hin hb hspeeds hend).1 hnone
      have hshow := (sameShow_ramped c (s.rampedSpeed c) s).trans (channelsOnly_clampEnd c st true _).sameShow
      have hchannel := clampEnd_channel c st true (ramped c (s.rampedSpeed c) s)
      rw [← heq] at hshow hchannel
      rw [ramped_channel, (sameShow_ramped c (s.rampedSpeed c) s).2.2] at hchannel
      refine ⟨hshow.1, hshow.2.1, hchannel.trans ?_⟩
      simp only [hrp, Option.some_inj, if_true]
      rfl
    case clamp_start =>
      have heq := (rampAndMove_pastStart hrp hst hin hb hspeeds hstart).1 hnone
      have hshow := (sameShow_ramped c (s.rampedSpeed c) s).trans (channelsOnly_clampStart c st true _).sameShow
      have hchannel := clampStart_channel c st true (ramped c (s.rampedSpeed c) s)
      rw [← heq] at hshow hchannel
      rw [ramped_channel] at hchannel
      refine ⟨hshow.1, hshow.2.1, hchannel.trans ?_⟩
      simp only [hrp, Option.some_inj, if_true]
      rfl
    case frame =>
      show handFrames c (rampAndMove c s) = _
      unfold handFrames
      rw [hmoves]
  case around =>
    simp only [← readable_eq]
    exact ⟨readableAfter_of_split h hd, readableBefore_of_split h hd⟩

end Sys2Proof.Machine
end

section
/-! PROOF. The stories that a movement does not leave keep their places (R44): what a line report, a leave and an entry
make of the records of the stories. -/

namespace Sys2Proof.Machine

/-! ## Records with the same places -/

/-- Two records of one story with the same places. -/
def SamePlaces (x y : Story) : Prop := y.id = x.id ∧ SameGeometry x y

theorem SamePlaces.refl (x : Story) : SamePlaces x x := ⟨rfl, rfl, rfl, rfl⟩

theorem SamePlaces.trans {x y z : Story} (h1 : SamePlaces x y) (h2 : SamePlaces y z) : SamePlaces x z := by
  obtain ⟨a1, a2, a3, a4⟩ := h1
  obtain ⟨b1, b2, b3, b4⟩ := h2
  exact ⟨b1.trans a1, b2.trans a2, b3.trans a3, b4.trans a4⟩

namespace SamePlaces

variable {x y : Story} (h : SamePlaces x y)

include h

theorem n : y.n = x.n := by
  have := congrArg List.length h.2.2.2
  simpa [Story.n] using this

theorem heightAt (t : Heights) (k : Nat) : y.heightAt t k = x.heightAt t k := by
  have hline : (y.lines[k - 1]?).map Line.cls = (x.lines[k - 1]?).map Line.cls := by
    rw [← List.getElem?_map, ← List.getElem?_map, h.2.2.2]
  unfold Story.heightAt
  split
  · rfl
  · cases hx : x.lines[k - 1]? <;> cases hy : y.lines[k - 1]? <;> simp [hx, hy] at hline ⊢
    simp only [Line.height, hline]

theorem linesHeight_take (t : Heights) (k : Nat) : linesHeight t (y.lines.take k) = linesHeight t (x.lines.take k) :=
  linesHeight_congr t (by rw [List.map_take, List.map_take, h.2.2.2])

theorem firstRow (t : Heights) (k : Nat) : y.firstRow t k = x.firstRow t k :=
  congrArg (t.slugBand + ·) (h.linesHeight_take t (k - 1))

theorem rowOf (t : Heights) (k o : Nat) : y.rowOf t k o = x.rowOf t k o := by
  unfold Story.rowOf
  rw [h.firstRow]

theorem geometryOf (t : Heights) : geometryOf t y.lines = Machine.geometryOf t x.lines :=
  congrArg (t.slugBand + ·) (linesHeight_congr t h.2.2.2)

theorem lastPoint (t : Heights) : y.lastPoint t = x.lastPoint t := by
  rw [Story.lastPoint, Story.lastPoint, h.1, h.n, h.heightAt]

theorem holds (t : Heights) (rp : ReadPoint) : y.holds t rp ↔ x.holds t rp := by
  rw [Story.holds, Story.holds, h.1, h.n, h.heightAt]

theorem linesBetween (t : Heights) (lo hi : Nat) : y.linesBetween t lo hi = x.linesBetween t lo hi := by
  unfold Story.linesBetween
  simp only [h.n, h.firstRow]

end SamePlaces

/-- The rows of equally high lines are the same. -/
theorem lineAtRow_congr (t : Heights) {l m : List Line} : l.map Line.cls = m.map Line.cls →
    ∀ k r, lineAtRow t k r l = lineAtRow t k r m := by
  induction l generalizing m with
  | nil =>
    intro h k r
    rw [List.map_eq_nil_iff.mp h.symm]
  | cons x xs ih =>
    intro h k r
    cases m with
    | nil => cases h
    | cons y ys =>
      simp only [List.map_cons, List.cons.injEq] at h
      have hh : x.height t = y.height t := congrArg t.of h.1
      rw [lineAtRow, lineAtRow, hh, ih h.2]

theorem SamePlaces.pointAtRow {x y : Story} (h : SamePlaces x y) (t : Heights) (r : Nat) :
    y.pointAtRow t r = x.pointAtRow t r := by
  unfold Story.pointAtRow
  rw [lineAtRow_congr t h.2.2.2]

/-! ## The record of one story in two states -/

/-- The story with this ID, if it is live in `s`, is live in `t` with the same places. -/
def Carries (s t : State) (id : Nat) : Prop := ∀ x, s.story? id = some x → ∃ y, t.story? id = some y ∧ SamePlaces x y

/-- The story with this ID, if it is live in `t`, was live in `s` with the same places. -/
def Traces (s t : State) (id : Nat) : Prop := ∀ y, t.story? id = some y → ∃ x, s.story? id = some x ∧ SamePlaces x y

theorem Carries.trans {s t u : State} {id : Nat} (h1 : Carries s t id) (h2 : Carries t u id) : Carries s u id := by
  intro x hx
  obtain ⟨y, hy, hxy⟩ := h1 x hx
  obtain ⟨z, hz, hyz⟩ := h2 y hy
  exact ⟨z, hz, hxy.trans hyz⟩

theorem Traces.trans {s t u : State} {id : Nat} (h1 : Traces s t id) (h2 : Traces t u id) : Traces s u id := by
  intro z hz
  obtain ⟨y, hy, hyz⟩ := h2 z hz
  obtain ⟨x, hx, hxy⟩ := h1 y hy
  exact ⟨x, hx, hxy.trans hyz⟩

theorem carries_of_eq {s t : State} {id : Nat} (h : t.story? id = s.story? id) : Carries s t id :=
  fun x hx => ⟨x, h.trans hx, .refl x⟩

theorem traces_of_eq {s t : State} {id : Nat} (h : t.story? id = s.story? id) : Traces s t id :=
  fun x hx => ⟨x, h.symm.trans hx, .refl x⟩

/-- The records after a change to one story that keeps its places. -/
theorem story?_modStory_samePlaces {s : State} {f : Story → Story} (hf : ∀ x, SamePlaces x (f x)) (id i : Nat) :
    Carries s (s.modStory id f) i ∧ Traces s (s.modStory id f) i := by
  have hfind : (s.modStory id f).story? i = (s.story? i).map (fun x => if x.id = id then f x else x) := by
    unfold State.story? State.modStory
    rw [List.find?_map]
    congr 2
    funext x
    simp only [Function.comp_apply]
    split
    · rw [(hf x).1]
    · rfl
  have hplaces (x : Story) : SamePlaces x (if x.id = id then f x else x) := by
    split
    · exact hf x
    · exact .refl x
  refine ⟨fun x hx => ?_, fun y hy => ?_⟩
  · rw [hfind, hx]
    exact ⟨_, rfl, hplaces x⟩
  · rw [hfind] at hy
    obtain ⟨x, hx, rfl⟩ := Option.map_eq_some_iff.mp hy
    exact ⟨x, hx, hplaces x⟩

theorem samePlaces_setOpen (c : ChannelId) (v : Bool) (x : Story) : SamePlaces x (x.setOpen c v) :=
  ⟨x.setOpen_id c v, Story.setOpen_geometry c v x⟩

/-- The removal of one story leaves the records of the others. -/
theorem story?_removeStory {s t : State} {id i : Nat} (h : t.stories = removeStory id s.stories) (hi : i ≠ id) :
    t.story? i = s.story? i := by
  rw [State.story?, h, State.story?, removeStory]
  induction s.stories with
  | nil => rfl
  | cons x xs ih =>
    by_cases hx : x.id = id
    · have hxi : x.id ≠ i := fun e => hi (e.symm.trans hx)
      rw [List.filter_cons_of_neg (by simp [hx]), List.find?_cons_of_neg (by simpa using hxi)]
      exact ih
    · rw [List.filter_cons_of_pos (by simpa using hx)]
      by_cases hxi : x.id = i
      · rw [List.find?_cons_of_pos (by simpa using hxi), List.find?_cons_of_pos (by simpa using hxi)]
      · rw [List.find?_cons_of_neg (by simpa using hxi), List.find?_cons_of_neg (by simpa using hxi)]
        exact ih

theorem story?_removeStory_self {s t : State} {id : Nat} (h : t.stories = removeStory id s.stories) :
    t.story? id = none := by
  rw [State.story?, h, List.find?_eq_none]
  intro x hx
  simpa using ne_of_mem_removeStory hx

theorem story?_of_stories {s t : State} (h : t.stories = s.stories) (i : Nat) : t.story? i = s.story? i := by
  rw [State.story?, h]
  rfl

/-- A leave keeps the records of the stories, but that the story left may be retired. -/
theorem leave_records (c : ChannelId) (id : Nat) (kind : LeaveKind) (s : State) (i : Nat) :
    (i ≠ id → Carries s (leave c id kind s) i) ∧ Traces s (leave c id kind s) i := by
  rcases leave_stories c id kind s with ⟨-, h⟩ | ⟨st, -, -, h⟩ | ⟨st, a, -, -, h⟩
  · have hsame := story?_of_stories h i
    exact ⟨fun _ => carries_of_eq hsame, traces_of_eq hsame⟩
  · refine ⟨fun hi => carries_of_eq (story?_removeStory h hi), ?_⟩
    by_cases hi : i = id
    · intro y hy
      rw [hi, story?_removeStory_self h] at hy
      exact nomatch hy
    · exact traces_of_eq (story?_removeStory h hi)
  · have hsame := story?_of_stories h i
    obtain ⟨hcarries, htraces⟩ := story?_modStory_samePlaces (s := s)
      (f := fun x => { x.setOpen c false with air := a x }) (fun x => by cases c <;> exact ⟨rfl, rfl, rfl, rfl⟩) id i
    exact ⟨fun _ => hcarries.trans (carries_of_eq hsame), htraces.trans (traces_of_eq hsame)⟩

theorem enter_records (c : ChannelId) (id : Nat) (s : State) (i : Nat) :
    Carries s (enter c id s) i ∧ Traces s (enter c id s) i := by
  have hsame := story?_of_stories (State.modChannel_stories (s.modStory id (fun st => st.setOpen c true)) c
    (fun ch => { ch with storyChanged := true })) i
  obtain ⟨hcarries, htraces⟩ := story?_modStory_samePlaces (s := s) (samePlaces_setOpen c true) id i
  exact ⟨hcarries.trans (carries_of_eq hsame), htraces.trans (traces_of_eq hsame)⟩

/-- A line report keeps the places of every story. -/
theorem reportLine_records (c : ChannelId) (id k : Nat) (s : State) (i : Nat) :
    Carries s (reportLine c id k s) i ∧ Traces s (reportLine c id k s) i := by
  rcases reportLine_cases c id k s with h | ⟨_, l, o, _, _, _, h⟩ <;> rw [h]
  · exact ⟨carries_of_eq rfl, traces_of_eq rfl⟩
  · exact story?_modStory_samePlaces (s := s)
      (f := fun st => { st with lines := st.lines.modify (k - 1) (fun l => { l with fired := true }) })
      (fun x => ⟨rfl, rfl, rfl, cls_modify_fired x.lines (k - 1)⟩) id i

theorem reportLines_records (c : ChannelId) (id : Nat) (ks : List Nat) (s : State) (i : Nat) :
    Carries s (reportLines c id ks s) i ∧ Traces s (reportLines c id ks s) i := by
  unfold reportLines
  induction ks generalizing s with
  | nil => exact ⟨carries_of_eq rfl, traces_of_eq rfl⟩
  | cons k ks ih =>
    obtain ⟨hcarries, htraces⟩ := reportLine_records c id k s i
    exact ⟨hcarries.trans (ih _).1, htraces.trans (ih _).2⟩

theorem SameShow.records {s t : State} (h : SameShow s t) (i : Nat) : Carries s t i ∧ Traces s t i :=
  ⟨carries_of_eq (h.story? i), traces_of_eq (h.story? i)⟩

/-- A crossing keeps the records of the stories, but that the story left may be retired. -/
theorem cross_records (c : ChannelId) (old : Nat) (kind : LeaveKind) (rp : ReadPoint) (s : State) (i : Nat) :
    (i ≠ old → Carries s (cross c old kind rp s) i) ∧ Traces s (cross c old kind rp s) i := by
  obtain ⟨hplaced, hplaced'⟩ := (sameShow_place c rp s).records i
  obtain ⟨hleft, hleft'⟩ := leave_records c old kind (s.place c rp) i
  obtain ⟨hentered, hentered'⟩ := enter_records c rp.story (leave c old kind (s.place c rp)) i
  exact ⟨fun hi => (hplaced.trans (hleft hi)).trans hentered, (hplaced'.trans hleft').trans hentered'⟩

end Sys2Proof.Machine
end

section
/-! PROOF. The jog walk along the readable stories (R80 to R82): the stories it passes, one by one. -/

namespace Sys2Proof.Machine

/-! ## Crossing on the way -/

/-- The stories `zs` are live in `u`, with the places that they have here. -/
def Located (u : State) (zs : List Story) : Prop := ∀ z ∈ zs, ∃ y, u.story? z.id = some y ∧ SamePlaces z y

theorem Located.tail {u : State} {z : Story} {zs : List Story} (h : Located u (z :: zs)) : Located u zs :=
  fun y hy => h y (List.mem_cons_of_mem z hy)

theorem Located.carries {u v : State} {zs : List Story} (h : Located u zs) (hc : ∀ z ∈ zs, Carries u v z.id) :
    Located v zs := by
  intro z hz
  obtain ⟨y, hy, hzy⟩ := h z hz
  obtain ⟨x, hx, hyx⟩ := hc z hz y hy
  exact ⟨x, hx, hzy.trans hyx⟩

/-- The walk has arrived in the story `x`, having passed the stories `gone`: the channel's read point stands in it (at
`entry`, if a story has been passed) and STORY CHANGED is set if a story has been passed. -/
structure Arrives (c : ChannelId) (gone : List Story) (x : Story) (rest : List Story) (entry : ReadPoint) (u w : State) :
    Prop where
  channel : ∃ rp, w.channel c = { u.channel c with
      readPoint := some rp, storyChanged := (u.channel c).storyChanged || decide (gone ≠ []) }
    ∧ rp.story = x.id ∧ (gone = [] → (u.channel c).readPoint = some rp) ∧ (gone ≠ [] → rp = entry)
  others : ∀ d, d ≠ c → w.channel d = u.channel d
  located : Located w (x :: rest)
  heights : w.heights = u.heights

theorem arrives_self {c : ChannelId} {x : Story} {rest : List Story} {entry rp : ReadPoint} {u : State}
    (hrp : (u.channel c).readPoint = some rp) (hx : rp.story = x.id) (hl : Located u (x :: rest)) :
    Arrives c [] x rest entry u u where
  channel := ⟨rp, by simp [← hrp], hx, fun _ => hrp, fun h => absurd rfl h⟩
  others _ _ := rfl
  located := hl
  heights := rfl

/-- A walk that arrives after a crossing has passed the story that it left. -/
theorem Arrives.afterCross {c : ChannelId} {gone rest : List Story} {y x : Story} {entry rp : ReadPoint} {u v w : State}
    (hv : v.channel c = { u.channel c with readPoint := some rp, storyChanged := true })
    (hother : ∀ d, d ≠ c → v.channel d = u.channel d) (hheights : v.heights = u.heights)
    (hentry : gone = [] → rp = entry) (h : Arrives c gone x rest entry v w) :
    Arrives c (y :: gone) x rest entry u w where
  channel := by
    obtain ⟨rp', hch, hx, hself, hpast⟩ := h.channel
    refine ⟨rp', ?_, hx, fun e => (nomatch e), fun _ => ?_⟩
    · rw [hch, hv]
      simp
    · by_cases hg : gone = []
      · have hrp := hself hg
        rw [hv] at hrp
        exact (Option.some_inj.mp hrp).symm.trans (hentry hg)
      · exact hpast hg
  others d hd := (h.others d hd).trans (hother d hd)
  located := h.located
  heights := h.heights.trans hheights

/-- A crossing on the way, after the lines of the story left have been reported. -/
theorem crossing {c : ChannelId} {u : State} {old : Nat} (ks : List Nat) (kind : LeaveKind) (rp : ReadPoint) :
    let v := cross c old kind rp (reportLines c old ks u)
    v.channel c = { u.channel c with readPoint := some rp, storyChanged := true }
    ∧ (∀ d, d ≠ c → v.channel d = u.channel d) ∧ v.heights = u.heights
    ∧ SameShow (((reportLines c old ks u).leftBy c kind old).enteredBy c rp.story) v
    ∧ ∀ i, i ≠ old → Carries u v i := by
  dsimp only
  refine ⟨?_, fun d hd => ?_, ?_, sameShow_cross c old kind rp _, fun i hi => ?_⟩
  · rw [cross_channel_same, reportLines_channel]
  · rw [cross_channel_other hd, reportLines_channel]
  · rw [movesOnly_cross c old kind rp (reportLines c old ks u), movesOnly_reportLines c old ks u]
  · exact (reportLines_records c old ks u i).1.trans ((cross_records c old kind rp _ i).1 hi)

/-- A path that goes on has a next story. -/
theorem path_next (gone : List Story) (x : Story) (rest : List Story) : ∃ next p q,
    gone ++ [x] = next :: p ∧ gone ++ x :: rest = next :: q ∧ (gone = [] → next = x) := by
  cases gone with
  | nil => exact ⟨x, [], rest, rfl, rfl, fun _ => rfl⟩
  | cons z gone => exact ⟨z, gone ++ [x], gone ++ x :: rest, rfl, rfl, fun h => nomatch h⟩

/-- The current story of a channel, on a path. -/
theorem Located.currentStory {u : State} {c : ChannelId} {rp : ReadPoint} {z : Story} {zs : List Story}
    (h : Located u (z :: zs)) (hrp : (u.channel c).readPoint = some rp) (hz : rp.story = z.id) :
    ∃ y, u.currentStory c = some y ∧ SamePlaces z y := by
  obtain ⟨y, hy, hplaces⟩ := h z List.mem_cons_self
  refine ⟨y, ?_, hplaces⟩
  rw [State.currentStory, hrp, Option.bind_some, hz, hy]

/-! ## The walk forward -/

theorem walkForward_ends {c : ChannelId} {frac lo target : Nat} {ahead : List Nat} {u : State} {y : Story}
    (hcur : u.currentStory c = some y) (h : target < y.g) : walkForward c frac ahead lo target u =
      movedForward c ((reportLines c y.id (y.linesBetween u.heights lo target) u).place c
        ⟨y.id, (y.pointAtRow u.heights target).1, (y.pointAtRow u.heights target).2, frac⟩) := by
  cases ahead <;> (unfold walkForward; rw [hcur]; exact if_pos h)

theorem walkForward_clamps {c : ChannelId} {frac lo target : Nat} {u : State} {y : Story}
    (hcur : u.currentStory c = some y) (h : y.g ≤ target) : walkForward c frac [] lo target u =
      clampEnd c y false (reportLines c y.id (y.linesBetween u.heights lo (y.g - 1)) u) := by
  unfold walkForward
  rw [hcur]
  exact if_neg (Nat.not_lt.mpr h)

theorem walkForward_passes {c : ChannelId} {frac lo target next : Nat} {ahead : List Nat} {u : State} {y : Story}
    (hcur : u.currentStory c = some y) (h : y.g ≤ target) : walkForward c frac (next :: ahead) lo target u =
      walkForward c frac ahead 0 (target - y.g) (cross c y.id .forward ⟨next, 0, 0, frac⟩
        (reportLines c y.id (y.linesBetween u.heights lo (y.g - 1)) u)) := by
  conv => lhs; unfold walkForward
  rw [hcur]
  exact if_neg (Nat.not_lt.mpr h)

/-- Every line of a story begins above its end. -/
theorem Story.firstRow_lt (st : Story) {h : Heights} (hb : HeightsBounded h) {k : Nat} (h1 : 1 ≤ k) (hk : k ≤ st.n) :
    st.firstRow h k < geometryOf h st.lines := by
  have := st.heightAt_ge hb hk
  have hlt := st.rowOf_lt h (o := 0) hk (by omega)
  obtain ⟨m, rfl⟩ := Nat.exists_eq_add_of_le' h1
  rwa [st.rowOf_zero_succ] at hlt

/-- The lines that the walk reaches in a story, in the two ways of counting rows (R82). -/
theorem Story.reached_eq (st : Story) (h : Heights) {slo hi base lo target : Nat} (hlo : lo = slo + 1 - base)
    (hhi : ∀ k, 1 ≤ k → k ≤ st.n → (base + st.firstRow h k ≤ hi ↔ st.firstRow h k ≤ target)) :
    st.reached h slo hi base = st.linesBetween h lo target := by
  unfold Story.reached Story.linesBetween
  refine List.filter_congr fun k hk => ?_
  obtain ⟨i, hi', rfl⟩ := List.mem_map.mp hk
  have := List.mem_range.mp hi'
  congr 1
  · exact decide_eq_decide.mpr (by omega)
  · exact decide_eq_decide.mpr (hhi (i + 1) (by omega) (by omega))

theorem walkedForward_congr (c : ChannelId) (lo hi : Nat) (path : List Story) : ∀ (base : Nat) {s t : State}, SameShow s t →
    SameShow (State.walkedForward c lo hi base path s) (State.walkedForward c lo hi base path t) := by
  induction path with
  | nil => exact fun _ _ _ h => h
  | cons st path ih =>
    intro base s t h
    have htold : SameShow (reportLines c st.id (st.reached s.heights lo hi base) s)
        (reportLines c st.id (st.reached t.heights lo hi base) t) := by
      rw [h.2.2]
      exact h.reportLines c st.id _
    cases path with
    | nil => exact htold
    | cons next path => exact ih (base + st.g) ((htold.leftBy c .forward st.id).enteredBy c next.id)

/-- The walk forward passes the stories `gone` and arrives in `x`. -/
theorem walkForward_gone {c : ChannelId} {frac slo hi : Nat} {h : Heights} (hb : HeightsBounded h) (x : Story)
    (rest : List Story) (gone : List Story) : ∀ {base target : Nat} {u : State} {rp : ReadPoint}, u.heights = h →
      (∀ z ∈ gone ++ x :: rest, z.g = geometryOf h z.lines) → ((gone ++ x :: rest).map Story.id).Nodup →
      Located u (gone ++ x :: rest) → (u.channel c).readPoint = some rp →
      (∀ z ∈ (gone ++ x :: rest).head?, rp.story = z.id ∧ slo < base + z.g) → hi = base + target →
      (gone.map Story.g).sum ≤ target →
      ∃ w, walkForward c frac ((gone ++ x :: rest).tail.map Story.id) (slo + 1 - base) target u
          = walkForward c frac (rest.map Story.id) (slo + 1 - (base + (gone.map Story.g).sum))
              (target - (gone.map Story.g).sum) w
        ∧ Arrives c gone x rest ⟨x.id, 0, 0, frac⟩ u w
        ∧ SameShow (State.walkedForward c slo hi base (gone ++ [x]) u)
            (reportLines c x.id (x.reached h slo hi (base + (gone.map Story.g).sum)) w) := by
  induction gone with
  | nil =>
    intro base target u rp hh _ _ hl hrp hhead _ _
    refine ⟨u, by simp, arrives_self hrp (hhead x rfl).1 hl, ?_⟩
    rw [← hh]
    exact .refl _
  | cons y gone ih =>
    intro base target u rp hh hg hnodup hl hrp hhead hhi hpassed
    obtain ⟨hstory, hslo⟩ := hhead y rfl
    obtain ⟨next, p, q, hpath, hpath', hnext⟩ := path_next gone x rest
    obtain ⟨y', hcur, hplaces⟩ := hl.currentStory hrp hstory
    have hyg : y'.g = y.g := hplaces.2.1
    rw [List.map_cons, List.sum_cons] at hpassed
    have hreached : y.reached u.heights slo hi base = y'.linesBetween u.heights (slo + 1 - base) (y'.g - 1) := by
      rw [hplaces.linesBetween]
      refine y.reached_eq u.heights rfl fun k h1 hk => ?_
      have := y.firstRow_lt (h := u.heights) (by rwa [hh]) h1 hk
      have := hg y (by simp)
      rw [← hh] at this
      omega
    obtain ⟨hv, hother, hheights, hshow, hcarries⟩ := crossing (c := c) (u := u) (old := y.id)
      (y'.linesBetween u.heights (slo + 1 - base) (y'.g - 1)) .forward ⟨next.id, 0, 0, frac⟩
    have hstep : walkForward c frac ((y :: gone ++ x :: rest).tail.map Story.id) (slo + 1 - base) target u
        = walkForward c frac (q.map Story.id) 0 (target - y.g) (cross c y.id .forward ⟨next.id, 0, 0, frac⟩
            (reportLines c y.id (y'.linesBetween u.heights (slo + 1 - base) (y'.g - 1)) u)) := by
      rw [List.cons_append, List.tail_cons, hpath', List.map_cons, walkForward_passes hcur (by omega), hyg, hplaces.1]
    have hspec : State.walkedForward c slo hi base (y :: gone ++ [x]) u
        = State.walkedForward c slo hi (base + y.g) (next :: p)
            (((reportLines c y.id (y.reached u.heights slo hi base) u).leftBy c .forward y.id).enteredBy c next.id) := by
      rw [List.cons_append, hpath]
      rfl
    rw [List.cons_append, List.map_cons, List.nodup_cons] at hnodup
    generalize cross c y.id .forward ⟨next.id, 0, 0, frac⟩
      (reportLines c y.id (y'.linesBetween u.heights (slo + 1 - base) (y'.g - 1)) u) = v
      at hv hother hheights hshow hcarries hstep
    obtain ⟨w, heq, harrives, hwalked⟩ := ih (base := base + y.g) (target := target - y.g) (u := v)
      (rp := ⟨next.id, 0, 0, frac⟩) (hheights.trans hh) (fun z hz => hg z (List.mem_cons_of_mem y hz)) hnodup.2
      (hl.tail.carries fun z hz => hcarries z.id fun e => hnodup.1 (e ▸ List.mem_map_of_mem hz)) (by rw [hv])
      (fun z hz => by
        rw [hpath'] at hz
        obtain rfl : next = z := Option.some_inj.mp hz
        exact ⟨rfl, by omega⟩) (by omega) (by omega)
    rw [hpath', List.tail_cons, show slo + 1 - (base + y.g) = 0 by omega] at heq
    refine ⟨w, ?_, harrives.afterCross hv hother hheights fun hn => by rw [hnext hn], ?_⟩
    · rw [hstep, heq, List.map_cons, List.sum_cons, ← Nat.add_assoc, Nat.sub_sub]
    · rw [hspec, hreached, List.map_cons, List.sum_cons, ← Nat.add_assoc, ← hpath]
      exact (walkedForward_congr c slo hi _ _ hshow).trans hwalked

/-! ## The walk backward -/

theorem walkBackward_ends {c : ChannelId} {frac row d : Nat} {behind : List Nat} {u : State} {y : Story}
    (hcur : u.currentStory c = some y) (h : d ≤ row) : walkBackward c frac behind row d u =
      movedBackward c (u.place c
        ⟨y.id, (y.pointAtRow u.heights (row - d)).1, (y.pointAtRow u.heights (row - d)).2, frac⟩) := by
  cases behind <;> (unfold walkBackward; rw [hcur]; exact if_pos h)

theorem walkBackward_clamps {c : ChannelId} {frac row d : Nat} {u : State} {y : Story}
    (hcur : u.currentStory c = some y) (h : row < d) : walkBackward c frac [] row d u = clampStart c y false u := by
  unfold walkBackward
  rw [hcur]
  exact if_neg (Nat.not_le.mpr h)

theorem walkBackward_passes {c : ChannelId} {frac row d before : Nat} {behind : List Nat} {u : State} {y st' : Story}
    (hcur : u.currentStory c = some y) (hst' : u.story? before = some st') (h : row < d) :
    walkBackward c frac (before :: behind) row d u = walkBackward c frac behind st'.g (d - row)
      (cross c y.id .backward ⟨before, st'.n, st'.heightAt u.heights st'.n - 1, frac⟩ u) := by
  conv => lhs; unfold walkBackward
  rw [hcur]
  dsimp only
  rw [if_neg (Nat.not_le.mpr h), hst']

theorem walkedBackward_congr (c : ChannelId) (path : List Story) : ∀ {s t : State}, SameShow s t →
    SameShow (State.walkedBackward c path s) (State.walkedBackward c path t) := by
  induction path with
  | nil => exact fun h => h
  | cons st path ih =>
    intro s t h
    cases path with
    | nil => exact h
    | cons next path => exact ih ((h.leftBy c .backward st.id).enteredBy c next.id)

/-- The walk backward passes the stories `gone` and arrives in `x`; `room` rows lay above its start as far as the top of
`x`. -/
theorem walkBackward_gone {c : ChannelId} {frac : Nat} {h : Heights} (x : Story) (rest : List Story) (gone : List Story) :
    ∀ {row d : Nat} {u : State} {rp : ReadPoint}, u.heights = h →
      ((gone ++ x :: rest).map Story.id).Nodup → Located u (gone ++ x :: rest) → (u.channel c).readPoint = some rp →
      (∀ z ∈ (gone ++ x :: rest).head?, rp.story = z.id) →
      (gone = [] ∨ row + (((gone ++ [x]).drop 1).map Story.g).sum < d + x.g) →
      ∃ w row' d', walkBackward c frac ((gone ++ x :: rest).tail.map Story.id) row d u
          = walkBackward c frac (rest.map Story.id) row' d' w
        ∧ row' + d = row + (((gone ++ [x]).drop 1).map Story.g).sum + d'
        ∧ (gone = [] → row' = row) ∧ (gone ≠ [] → row' = x.g ∧ 0 < d')
        ∧ Arrives c gone x rest ⟨x.id, x.n, x.heightAt h x.n - 1, frac⟩ u w
        ∧ SameShow (State.walkedBackward c (gone ++ [x]) u) w := by
  induction gone with
  | nil =>
    intro row d u rp _ _ hl hrp hhead _
    exact ⟨u, row, d, rfl, by simp, fun _ => rfl, fun hn => absurd rfl hn, arrives_self hrp (hhead x rfl) hl, .refl u⟩
  | cons y gone ih =>
    intro row d u rp hh hnodup hl hrp hhead hroom
    obtain ⟨next, p, q, hpath, hpath', hnext⟩ := path_next gone x rest
    obtain ⟨y', hcur, hplaces⟩ := hl.currentStory hrp (hhead y rfl)
    obtain ⟨st', hst', hplaces'⟩ := hl next (by rw [List.cons_append, hpath']; simp)
    have hng : st'.g = next.g := hplaces'.2.1
    have hsum : ((((y :: gone) ++ [x]).drop 1).map Story.g).sum
        = next.g + (((gone ++ [x]).drop 1).map Story.g).sum := by
      rw [List.cons_append, List.drop_one, List.tail_cons, hpath]
      simp
    rw [hsum] at hroom ⊢
    have hlast : gone = [] → next.g = x.g ∧ (((gone ++ [x]).drop 1).map Story.g).sum = 0 := by
      intro hn
      rw [hnext hn, hn]
      simp
    have hxle : gone ≠ [] → x.g ≤ (((gone ++ [x]).drop 1).map Story.g).sum := by
      intro hn
      obtain ⟨z, zs, rfl⟩ := List.exists_cons_of_ne_nil hn
      simp
    have hpass : row < d := by
      have := hroom.resolve_left (List.cons_ne_nil y gone)
      by_cases hn : gone = []
      · have := hlast hn
        omega
      · have := hxle hn
        omega
    obtain ⟨hv, hother, hheights, hshow, hcarries⟩ := crossing (c := c) (u := u) (old := y.id) [] .backward
      ⟨next.id, st'.n, st'.heightAt u.heights st'.n - 1, frac⟩
    have hstep : walkBackward c frac ((y :: gone ++ x :: rest).tail.map Story.id) row d u
        = walkBackward c frac (q.map Story.id) next.g (d - row)
            (cross c y.id .backward ⟨next.id, st'.n, st'.heightAt u.heights st'.n - 1, frac⟩ (reportLines c y.id [] u)) := by
      rw [List.cons_append, List.tail_cons, hpath', List.map_cons, walkBackward_passes hcur hst' hpass, hng, hplaces.1]
      rfl
    have hspec : State.walkedBackward c (y :: gone ++ [x]) u
        = State.walkedBackward c (next :: p) ((u.leftBy c .backward y.id).enteredBy c next.id) := by
      rw [List.cons_append, hpath]
      rfl
    rw [List.cons_append, List.map_cons, List.nodup_cons] at hnodup
    generalize cross c y.id .backward ⟨next.id, st'.n, st'.heightAt u.heights st'.n - 1, frac⟩
      (reportLines c y.id [] u) = v at hv hother hheights hshow hcarries hstep
    obtain ⟨w, row', d', heq, hbalance, hsame, hpast, harrives, hwalked⟩ := ih (row := next.g) (d := d - row) (u := v)
      (hheights.trans hh) hnodup.2
      (hl.tail.carries fun z hz => hcarries z.id fun e => hnodup.1 (e ▸ List.mem_map_of_mem hz)) (by rw [hv])
      (fun z hz => by
        rw [hpath'] at hz
        obtain rfl : next = z := Option.some_inj.mp hz
        rfl)
      (by
        rcases hroom with hn | hlt
        · exact nomatch hn
        · exact .inr (by omega))
    rw [hpath', List.tail_cons] at heq
    refine ⟨w, row', d', hstep.trans heq, by omega, fun hn => (nomatch hn), fun _ => ?_,
      harrives.afterCross hv hother hheights fun hn => ?_, ?_⟩
    · by_cases hn : gone = []
      · have := hsame hn
        have := hlast hn
        have := hroom.resolve_left (List.cons_ne_nil y gone)
        omega
      · exact hpast hn
    · rw [hplaces'.n, hplaces'.heightAt, hnext hn, hh]
    · rw [hspec, ← hpath]
      exact (walkedBackward_congr c _ hshow).trans hwalked

end Sys2Proof.Machine
end

section
/-! PROOF. What a jog does (R64, R80 to R82): where the walk ends, and where it clamps. -/

namespace Sys2Proof.Machine

/-! ## The end of the walk -/

section
variable {c : ChannelId} {gone rest : List Story} {x : Story} {entry rp : ReadPoint} {s w walk t : State}

theorem Arrives.currentStory (h : Arrives c gone x rest entry s w) : ∃ y, w.currentStory c = some y ∧ SamePlaces x y := by
  obtain ⟨rp, hch, hx, -, -⟩ := h.channel
  exact h.located.currentStory (by rw [hch]) hx

/-- A clamp at the place `edge` of the story arrived in keeps the flag of the other edge exactly when nothing moved. -/
theorem Arrives.at_edge (h : Arrives c gone x rest entry s w) (hrp : (s.channel c).readPoint = some rp)
    (hstart : gone ≠ [] → rp.story ≠ x.id) {edge : ReadPoint} (hedge : edge.story = x.id) (hentry : entry ≠ edge) :
    ((w.channel c).readPoint = some edge ↔ rp = edge) := by
  obtain ⟨rp', hch, -, hself, hpast⟩ := h.channel
  rw [hch, Option.some_inj]
  by_cases hg : gone = []
  · rw [Option.some_inj.mp ((hself hg).symm.trans hrp)]
  · rw [hpast hg]
    exact iff_of_false hentry fun e => hstart hg (by rw [e, hedge])

theorem Arrives.endsForward (h : Arrives c gone x rest entry s w) {frac lo target : Nat} (hf : frac ≤ 255)
    (hg : x.g = geometryOf s.heights x.lines) (htarget : target < x.g)
    (ht : t = walkForward c frac (rest.map Story.id) lo target w) (hmoves : MovesOnly s t)
    (hwalk : SameShow walk (reportLines c x.id (x.linesBetween s.heights lo target) w)) :
    ∃ rp', x.holds s.heights rp' ∧ x.rowOf s.heights rp'.k rp'.o = target ∧ rp'.frac = frac
      ∧ JogEnds c { s.channel c with
          readPoint := some rp', startFlag := false
          target := if (s.channel c).startFlag then targetFor t c else (s.channel c).target } gone walk s t := by
  obtain ⟨y, hcur, hplaces⟩ := h.currentStory
  obtain ⟨hk, ho, hrow⟩ := x.pointAtRow_spec s.heights (hg ▸ htarget)
  obtain ⟨rp₀, hch, -⟩ := h.channel
  rw [walkForward_ends hcur (by rw [hplaces.2.1]; exact htarget), hplaces.1, hplaces.linesBetween,
    hplaces.pointAtRow, h.heights] at ht
  have hshow : SameShow walk t := by
    rw [ht]
    exact hwalk.trans ((sameShow_place c _ _).trans (channelsOnly_movedForward c _).sameShow)
  refine ⟨⟨x.id, (x.pointAtRow s.heights target).1, (x.pointAtRow s.heights target).2, frac⟩, ⟨rfl, hk, ho, hf⟩, hrow,
    rfl, ⟨?channel, fun d hd => ?other⟩, hshow.1, hshow.2.1, hmoves⟩
  case channel =>
    have hmoved := movedForward_channel c ((reportLines c x.id (x.linesBetween s.heights lo target) w).place c
      ⟨x.id, (x.pointAtRow s.heights target).1, (x.pointAtRow s.heights target).2, frac⟩)
    rw [← ht, State.place_same, reportLines_channel, hch] at hmoved
    exact hmoved
  case other => rw [ht, movedForward_other hd, State.place_other _ hd, reportLines_channel, h.others d hd]

theorem Arrives.clampsForward (h : Arrives c gone x [] entry s w) {frac lo target : Nat}
    (hb : HeightsBounded s.heights) (hpast : x.g ≤ target) (ht : t = walkForward c frac [] lo target w)
    (hmoves : MovesOnly s t) (hwalk : SameShow walk (reportLines c x.id (x.linesBetween s.heights lo (x.g - 1)) w))
    (hrp : (s.channel c).readPoint = some rp) (hstart : gone ≠ [] → rp.story ≠ x.id) (hentry : entry.o = 0)
    (hend : (s.channel c).endFlag = false) :
    JogEnds c { s.channel c with
      readPoint := some (x.lastPoint s.heights), endFlag := true, endReached := true
      startFlag := (s.channel c).startFlag && decide (rp = x.lastPoint s.heights)
      target := targetFor t c } gone walk s t := by
  obtain ⟨y, hcur, hplaces⟩ := h.currentStory
  have hhigh := x.heightAt_ge hb (Nat.le_refl x.n)
  have hedge := h.at_edge hrp hstart (edge := x.lastPoint s.heights) rfl fun e => by
    rw [e, Story.lastPoint] at hentry
    dsimp only at hentry
    omega
  obtain ⟨rp₀, hch, -⟩ := h.channel
  rw [walkForward_clamps hcur (by rw [hplaces.2.1]; exact hpast), hplaces.1, hplaces.2.1, hplaces.linesBetween,
    h.heights] at ht
  have hheights : (reportLines c x.id (x.linesBetween s.heights lo (x.g - 1)) w).heights = s.heights := by
    rw [movesOnly_reportLines c x.id (x.linesBetween s.heights lo (x.g - 1)) w]
    exact h.heights
  have hshow : SameShow walk t := by
    rw [ht]
    exact hwalk.trans (channelsOnly_clampEnd c y false _).sameShow
  refine ⟨⟨?channel, fun d hd => ?other⟩, hshow.1, hshow.2.1, hmoves⟩
  case channel =>
    have hclamp := clampEnd_channel c y false (reportLines c x.id (x.linesBetween s.heights lo (x.g - 1)) w)
    rw [← ht, hheights, hplaces.lastPoint, reportLines_channel] at hclamp
    simp only [hedge] at hclamp
    rw [hclamp, hch]
    simp [hend]
  case other => rw [ht, clampEnd_other hd, reportLines_channel, h.others d hd]

theorem Arrives.endsBackward (h : Arrives c gone x rest entry s w) {frac row d : Nat} (hf : frac ≤ 255)
    (hin : row - d < geometryOf s.heights x.lines) (hd : d ≤ row)
    (ht : t = walkBackward c frac (rest.map Story.id) row d w) (hmoves : MovesOnly s t) (hwalk : SameShow walk w) :
    ∃ rp', x.holds s.heights rp' ∧ x.rowOf s.heights rp'.k rp'.o + d = row ∧ rp'.frac = frac
      ∧ JogEnds c { s.channel c with
          readPoint := some rp', endFlag := false
          target := if (s.channel c).endFlag then targetFor t c else (s.channel c).target } gone walk s t := by
  obtain ⟨y, hcur, hplaces⟩ := h.currentStory
  obtain ⟨hk, ho, hrow⟩ := x.pointAtRow_spec s.heights hin
  obtain ⟨rp₀, hch, -⟩ := h.channel
  rw [walkBackward_ends hcur hd, hplaces.1, hplaces.pointAtRow, h.heights] at ht
  have hshow : SameShow walk t := by
    rw [ht]
    exact hwalk.trans ((sameShow_place c _ _).trans (channelsOnly_movedBackward c _).sameShow)
  refine ⟨⟨x.id, (x.pointAtRow s.heights (row - d)).1, (x.pointAtRow s.heights (row - d)).2, frac⟩, ⟨rfl, hk, ho, hf⟩,
    by dsimp only; omega, rfl, ⟨?channel, fun e he => ?other⟩, hshow.1, hshow.2.1, hmoves⟩
  case channel =>
    have hmoved := movedBackward_channel c (w.place c
      ⟨x.id, (x.pointAtRow s.heights (row - d)).1, (x.pointAtRow s.heights (row - d)).2, frac⟩)
    rw [← ht, State.place_same, hch] at hmoved
    exact hmoved
  case other => rw [ht, movedBackward_other he, State.place_other _ he, h.others e he]

theorem Arrives.clampsBackward (h : Arrives c gone x [] entry s w) {frac row d : Nat}
    (hpast : row < d) (ht : t = walkBackward c frac [] row d w) (hmoves : MovesOnly s t) (hwalk : SameShow walk w)
    (hrp : (s.channel c).readPoint = some rp) (hstart : gone ≠ [] → rp.story ≠ x.id) (hentry : entry.o ≠ 0) :
    JogEnds c { s.channel c with
      readPoint := some ⟨x.id, 0, 0, 0⟩, startFlag := true
      endFlag := (s.channel c).endFlag && decide (rp = ⟨x.id, 0, 0, 0⟩), target := targetFor t c } gone walk s t := by
  obtain ⟨y, hcur, hplaces⟩ := h.currentStory
  have hedge := h.at_edge hrp hstart (edge := ⟨x.id, 0, 0, 0⟩) rfl fun e => hentry (by rw [e])
  obtain ⟨rp₀, hch, -⟩ := h.channel
  rw [walkBackward_clamps hcur hpast] at ht
  have hshow : SameShow walk t := by
    rw [ht]
    exact hwalk.trans (channelsOnly_clampStart c y false _).sameShow
  refine ⟨⟨?channel, fun e he => ?other⟩, hshow.1, hshow.2.1, hmoves⟩
  case channel =>
    have hclamp := clampStart_channel c y false w
    rw [← ht, hplaces.1] at hclamp
    simp only [hedge] at hclamp
    rw [hclamp, hch]
    simp
  case other => rw [ht, clampStart_other he, h.others e he]

end

/-! ## The jog -/

theorem jog_forward {c : ChannelId} {j : Int} {s : State} {rp : ReadPoint} {st : Story}
    (hrp : (s.channel c).readPoint = some rp) (hcur : s.currentStory c = some st) (hj : 0 < j)
    (hend : (s.channel c).endFlag = false) : jog c j s = walkForward c rp.frac (s.readableAfter st.id)
      (st.rowOf s.heights rp.k rp.o + 1)
      (st.rowOf s.heights rp.k rp.o + j.natAbs * (s.channel c).tuning.jogStep) s := by
  simp [jog, hrp, hcur, hj, hend]

theorem jog_backward {c : ChannelId} {j : Int} {s : State} {rp : ReadPoint} {st : Story}
    (hrp : (s.channel c).readPoint = some rp) (hcur : s.currentStory c = some st) (hj : j < 0)
    (hstart : (s.channel c).startFlag = false) : jog c j s = walkBackward c rp.frac (s.readableBefore st.id)
      (st.rowOf s.heights rp.k rp.o) (j.natAbs * (s.channel c).tuning.jogStep) s := by
  simp [jog, hrp, hcur, hj, Int.not_lt.mpr (Int.le_of_lt hj), hstart]

theorem jog_idle {c : ChannelId} {j : Int} {s : State} (h : j = 0 ∨ s.currentStory c = none
      ∨ (0 < j ∧ (s.channel c).endFlag = true) ∨ (j < 0 ∧ (s.channel c).startFlag = true)) : jog c j s = s := by
  unfold jog
  dsimp only
  split
  · rename_i rp st _ hcur
    rcases h with rfl | hnone | ⟨hj, hend⟩ | ⟨hj, hstart⟩
    · simp
    · simp [hcur] at hnone
    · simp [hj, hend]
    · simp [hj, Int.not_lt.mpr (Int.le_of_lt hj), hstart]
  · rfl

/-- A path of stories found in the rundown: they are live and have their geometry. -/
theorem path_of_mem {s : State} {path : List Story} (hd : StoriesDistinct s) (hg : GeometryExact s)
    (hsub : ∀ z ∈ path, z ∈ s.stories) :
    Located s path ∧ ∀ z ∈ path, z.g = geometryOf s.heights z.lines :=
  ⟨fun z hz => ⟨z, State.story?_of_mem hd.1 (hsub z hz), .refl z⟩, fun z hz => hg.2.1 z (hsub z hz)⟩

theorem path_after {s : State} {before after : List Story} {st : Story} (h : s.stories = before ++ st :: after)
    (hd : StoriesDistinct s) : ((st :: after.filter Story.readable).map Story.id).Nodup
      ∧ ∀ z ∈ st :: after.filter Story.readable, z ∈ s.stories := by
  have hsub : (st :: after.filter Story.readable).Sublist s.stories := by
    rw [h]
    exact (List.filter_sublist.cons_cons st).trans (List.sublist_append_right before _)
  exact ⟨hd.1.sublist (hsub.map Story.id), fun z hz => hsub.subset hz⟩

theorem path_before {s : State} {before after : List Story} {st : Story} (h : s.stories = before ++ st :: after)
    (hd : StoriesDistinct s) : ((st :: before.reverse.filter Story.readable).map Story.id).Nodup
      ∧ ∀ z ∈ st :: before.reverse.filter Story.readable, z ∈ s.stories := by
  have hsub : (st :: before.reverse.filter Story.readable).Sublist s.stories.reverse := by
    rw [h, List.reverse_append, List.reverse_cons, List.append_assoc]
    exact (List.filter_sublist.cons_cons st).trans (List.sublist_append_right after.reverse _)
  refine ⟨?_, fun z hz => List.mem_reverse.mp (hsub.subset hz)⟩
  have hrev : (s.stories.reverse.map Story.id).Nodup := by
    rw [List.map_reverse]
    exact (List.reverse_perm _).nodup_iff.mpr hd.1
  exact hrev.sublist (hsub.map Story.id)

/-- On a path without two stories of one ID, the start differs from a story behind it. -/
theorem start_ne {st x : Story} {q gone rest : List Story} (h : st :: q = gone ++ x :: rest)
    (hnodup : ((st :: q).map Story.id).Nodup) (hg : gone ≠ []) : st.id ≠ x.id := by
  obtain ⟨z, zs, rfl⟩ := List.exists_cons_of_ne_nil hg
  rw [List.cons_append] at h
  obtain ⟨rfl, rfl⟩ := List.cons.inj h
  rw [List.map_cons, List.nodup_cons] at hnodup
  exact fun e => hnodup.1 (e ▸ List.mem_map_of_mem (List.mem_append_right zs List.mem_cons_self))

theorem jog_walks (c : ChannelId) (j : Int) (s : State) : JogWalks c j s (jog c j s) := by
  refine ⟨jog_idle, fun rp before st after gone x rest hrp hsplit hin hd hg hstep => ⟨?forward, ?backward⟩⟩
  all_goals
    have hcur : s.currentStory c = some st := by
      rw [State.currentStory, hrp, Option.bind_some, hin.1, story?_of_split hsplit (before_ne_of_distinct hsplit hd)]
    have hmoves := movesOnly_jog c j s
    have hf := hin.2.2.2
  case forward =>
    intro hj hend hpath
    obtain ⟨hnodup, hmem⟩ := path_after hsplit hd
    rw [hpath] at hnodup hmem
    obtain ⟨hlocated, hgs⟩ := path_of_mem hd hg hmem
    have hahead : s.readableAfter st.id = (gone ++ x :: rest).tail.map Story.id := by
      rw [readableAfter_of_split hsplit hd, ← hpath, List.tail_cons]
    have hrow : st.rowOf s.heights rp.k rp.o < 0 + st.g := by
      rw [hg.2.1 st (hmem st (hpath ▸ List.mem_cons_self)), Nat.zero_add]
      exact st.rowOf_lt s.heights hin.2.1 hin.2.2.1
    have hwalk := jog_forward hrp hcur hj hend
    rw [hahead] at hwalk
    generalize jog c j s = t at hmoves hwalk ⊢
    generalize st.rowOf s.heights rp.k rp.o = row at hrow hwalk ⊢
    generalize j.natAbs * (s.channel c).tuning.jogStep = d at hwalk ⊢
    have hxg := hgs x (List.mem_append_right gone List.mem_cons_self)
    have harrive (hp : (gone.map Story.g).sum ≤ row + d) := walkForward_gone (c := c) (frac := rp.frac) (slo := row)
      (hi := row + d) (base := 0) (target := row + d) hg.1 x rest gone rfl hgs hnodup hlocated hrp
      (fun z hz => by
        rw [← hpath] at hz
        obtain rfl : st = z := Option.some_inj.mp hz
        exact ⟨hin.1, hrow⟩) (Nat.zero_add _).symm hp
    have hreached {target : Nat} (h : ∀ k, 1 ≤ k → k ≤ x.n →
        ((gone.map Story.g).sum + x.firstRow s.heights k ≤ row + d ↔ x.firstRow s.heights k ≤ target)) :=
      x.reached_eq s.heights (slo := row) (lo := row + 1 - (gone.map Story.g).sum) rfl h
    rw [Nat.zero_add, Nat.sub_zero] at *
    refine ⟨fun hp hlt => ?ends, fun hp hrest => ?clamps⟩
    case ends =>
      obtain ⟨w, heq, harr, hshow⟩ := harrive hp
      rw [hreached (target := row + d - (gone.map Story.g).sum) fun k _ _ => by omega] at hshow
      obtain ⟨rp', hin', hrow', hfrac, hends⟩ :=
        harr.endsForward hf hxg (by omega) (hwalk.trans heq) hmoves hshow
      exact ⟨rp', hin', by omega, hfrac, hends⟩
    case clamps =>
      subst hrest
      obtain ⟨w, heq, harr, hshow⟩ := harrive (by omega)
      rw [hreached (target := x.g - 1) fun k h1 hk => by
        have := x.firstRow_lt hg.1 h1 hk
        omega] at hshow
      exact harr.clampsForward hg.1 (by omega) (hwalk.trans heq) hmoves hshow hrp
        (fun hn => hin.1 ▸ start_ne hpath (hpath ▸ hnodup) hn) rfl hend
  case backward =>
    intro hj hstart hpath room walk hroom
    obtain ⟨hnodup, hmem⟩ := path_before hsplit hd
    rw [hpath] at hnodup hmem
    obtain ⟨hlocated, hgs⟩ := path_of_mem hd hg hmem
    have hbehind : s.readableBefore st.id = (gone ++ x :: rest).tail.map Story.id := by
      rw [readableBefore_of_split hsplit hd, ← hpath, List.tail_cons]
    have hxg := hgs x (List.mem_append_right gone List.mem_cons_self)
    have hself : gone = [] → st.rowOf s.heights rp.k rp.o < x.g := by
      intro hn
      rw [hn] at hpath
      obtain ⟨rfl, -⟩ := List.cons.inj hpath
      rw [hxg]
      exact st.rowOf_lt s.heights hin.2.1 hin.2.2.1
    have hwalk := jog_backward hrp hcur hj hstart
    rw [hbehind] at hwalk
    obtain ⟨w, row', d', heq, hbalance, hsame, hpast, harr, hshow⟩ := walkBackward_gone (c := c) (frac := rp.frac)
      (row := st.rowOf s.heights rp.k rp.o) (d := j.natAbs * (s.channel c).tuning.jogStep) x rest gone rfl hnodup
      hlocated hrp (fun z hz => by
        rw [← hpath] at hz
        obtain rfl : st = z := Option.some_inj.mp hz
        exact hin.1) hroom
    have hhigh := x.heightAt_ge hg.1 (Nat.le_refl x.n)
    have hwithin : row' - d' < geometryOf s.heights x.lines := by
      have := x.rowOf_lt s.heights (o := 0) (Nat.le_refl x.n) (by omega)
      rw [← hxg] at this ⊢
      by_cases hn : gone = []
      · have := hself hn
        have := hsame hn
        omega
      · have := hpast hn
        omega
    refine ⟨fun hd' => ?ends, fun hd' hrest => ?clamps⟩
    case ends =>
      obtain ⟨rp', hin', hrow', hfrac, hends⟩ :=
        harr.endsBackward hf hwithin (by omega) (hwalk.trans heq) hmoves hshow
      exact ⟨rp', hin', by omega, hfrac, hends⟩
    case clamps =>
      subst hrest
      exact harr.clampsBackward (by omega) (hwalk.trans heq) hmoves hshow hrp
        (fun hn => hin.1 ▸ start_ne hpath (hpath ▸ hnodup) hn) (by dsimp only; omega)

end Sys2Proof.Machine
end

section
/-! PROOF. What the presses of a REPORT do at its channel (R60 to R63, R118), and what they leave of the other one. -/

namespace Sys2Proof.Machine

/-! ## The other channel -/

theorem walkForward_other {c d : ChannelId} (hd : d ≠ c) (frac : Nat) (ahead : List Nat) : ∀ (lo target : Nat) (s : State),
    (walkForward c frac ahead lo target s).channel d = s.channel d := by
  induction ahead with
  | nil =>
    intro lo target s
    unfold walkForward
    split
    · rfl
    · split
      · rw [movedForward_other hd, State.place_other _ hd, reportLines_channel]
      · rw [clampEnd_other hd, reportLines_channel]
  | cons next rest ih =>
    intro lo target s
    unfold walkForward
    split
    · rfl
    · split
      · rw [movedForward_other hd, State.place_other _ hd, reportLines_channel]
      · rw [ih, cross_channel_other hd, reportLines_channel]

theorem walkBackward_other {c d : ChannelId} (hd : d ≠ c) (frac : Nat) (behind : List Nat) : ∀ (row n : Nat) (s : State),
    (walkBackward c frac behind row n s).channel d = s.channel d := by
  induction behind with
  | nil =>
    intro row n s
    unfold walkBackward
    split
    · rfl
    · split
      · rw [movedBackward_other hd, State.place_other _ hd]
      · exact clampStart_other hd _ _ s
  | cons before rest ih =>
    intro row n s
    unfold walkBackward
    split
    · rfl
    · split
      · rw [movedBackward_other hd, State.place_other _ hd]
      · dsimp only
        split
        · rfl
        · rw [ih, cross_channel_other hd]

theorem jog_other {c d : ChannelId} (hd : d ≠ c) (j : Int) (s : State) : (jog c j s).channel d = s.channel d := by
  unfold jog
  dsimp only
  split
  · split
    · split
      · rfl
      · exact walkForward_other hd _ _ _ _ s
    · split
      · split
        · rfl
        · exact walkBackward_other hd _ _ _ _ s
      · rfl
  · rfl

theorem pausePress_other {c d : ChannelId} (hd : d ≠ c) (s : State) : (pausePress c s).channel d = s.channel d := by
  rw [pausePress, recompute_other hd, State.modChannel_other s hd]

theorem atRest_other {c d : ChannelId} (hd : d ≠ c) (s : State) : (atRest c s).channel d = s.channel d :=
  State.modChannel_other s hd _

theorem nextPress_other {c d : ChannelId} (hd : d ≠ c) (s : State) : (nextPress c s).channel d = s.channel d := by
  unfold nextPress
  split
  · rfl
  · split
    · rfl
    · rw [atRest_other hd, cross_channel_other hd]

theorem prevPress_other {c d : ChannelId} (hd : d ≠ c) (s : State) : (prevPress c s).channel d = s.channel d := by
  unfold prevPress
  split
  · rfl
  · split
    · exact State.modChannel_other s hd _
    · split
      · rfl
      · rw [atRest_other hd, cross_channel_other hd]

theorem markPress_other {c d : ChannelId} (hd : d ≠ c) (s : State) : (markPress c s).channel d = s.channel d := by
  unfold markPress
  split
  · rfl
  · split
    · rfl
    · exact State.modChannel_other s hd _

/-! ## The presses -/

theorem pause_toggles (c : ChannelId) (s : State) : PauseToggles c s (pausePress c s) := by
  refine ⟨⟨?_, fun d hd => pausePress_other hd s⟩, (channelsOnly_modChannel c _ s).trans (channelsOnly_recompute c _)⟩
  rw [pausePress, targetFor_recompute, recompute_same, State.modChannel_same]

theorem mark_records (c : ChannelId) (s : State) : MarkRecords c s (markPress c s) := by
  refine ⟨fun h => ?absent, fun rp hstate hrp => ⟨⟨?_, fun d hd => markPress_other hd s⟩, channelsOnly_markPress c s⟩⟩
  case absent =>
    unfold markPress
    rcases h with h | h
    · rw [if_pos h]
    · rw [h]
      simp
  · rw [markPress, if_neg hstate, hrp]
    exact State.modChannel_same s c _

/-- A crossing to row 0 of another story, at rest. -/
theorem atRest_cross_jumps (c : ChannelId) (kind : LeaveKind) (old new : Nat) (s : State) :
    Jumps c kind old new s (atRest c (cross c old kind ⟨new, 0, 0, 0⟩ s)) := by
  have hmoves : MovesOnly s (atRest c (cross c old kind ⟨new, 0, 0, 0⟩ s)) :=
    (movesOnly_cross c old kind _ s).trans (movesOnly_modChannel c _ _)
  have hshow : SameShow ((s.leftBy c kind old).enteredBy c new) (atRest c (cross c old kind ⟨new, 0, 0, 0⟩ s)) :=
    (sameShow_cross c old kind ⟨new, 0, 0, 0⟩ s).trans (sameShow_modChannel c _ _)
  refine ⟨⟨?_, fun d hd => ?_⟩, hshow.1, ?_⟩
  · rw [atRest, State.modChannel_same, cross_channel_same]
  · rw [atRest_other hd, cross_channel_other hd]
  · have hcues : (atRest c (cross c old kind ⟨new, 0, 0, 0⟩ s)).cues = s.cues :=
      hshow.2.1.trans (leftBy_enteredBy_cues s c kind old new)
    conv => lhs; rw [hmoves]
    rw [hcues]

theorem readableAfter_gone {s : State} {id : Nat} (h : s.story? id = none) : s.readableAfter id = [] := by
  have hdrop : s.stories.dropWhile (fun st => st.id != id) = [] := by
    have hother : ∀ x ∈ s.stories, (x.id != id) = true := fun x hx => by
      rw [bne_iff_ne]
      exact fun e => List.find?_eq_none.mp h x hx (beq_iff_eq.mpr e)
    rw [← List.append_nil s.stories, List.dropWhile_append_of_pos hother, List.dropWhile_nil]
  rw [State.readableAfter, hdrop]
  rfl

theorem nextPress_nothing {c : ChannelId} {s : State}
    (h : ∀ rp, (s.channel c).readPoint = some rp → s.readableAfter rp.story = []) : nextPress c s = s := by
  unfold nextPress
  split
  · rfl
  · rename_i rp hrp
    rw [h rp hrp]

theorem next_jumps (c : ChannelId) (s : State) : NextJumps c s (nextPress c s) := by
  refine ⟨fun hnone => nextPress_nothing fun rp hrp => ?_, fun st hcur hafter => nextPress_nothing fun rp hrp => ?_,
    fun st next rest hcur hafter => ?_⟩
  · rw [State.currentStory, hrp, Option.bind_some] at hnone
    exact readableAfter_gone hnone
  · rw [State.currentStory, hrp, Option.bind_some] at hcur
    rw [← State.story?_id hcur, hafter]
  · obtain ⟨rp, hrp, hstory⟩ := Option.bind_eq_some_iff.mp hcur
    rw [State.story?_id hstory] at hafter ⊢
    rw [nextPress, hrp]
    dsimp only
    rw [hafter]
    exact atRest_cross_jumps c .forward rp.story next s

theorem prev_jumps (c : ChannelId) (s : State) : PrevJumps c s (prevPress c s) := by
  refine ⟨fun hnone => ?_, fun rp hrp hk => ⟨⟨?_, fun d hd => prevPress_other hd s⟩, ?_⟩, fun rp hrp hk hbefore => ?_,
    fun rp before rest hrp hk hbefore => ?_⟩
  · rw [prevPress, hnone]
  · rw [prevPress, hrp]
    dsimp only
    rw [if_pos (Nat.lt_of_succ_le hk), State.modChannel_same]
  · rw [prevPress, hrp]
    dsimp only
    rw [if_pos (Nat.lt_of_succ_le hk)]
    exact channelsOnly_modChannel c _ s
  · rw [prevPress, hrp]
    dsimp only
    rw [if_neg (by omega), hbefore]
  · rw [prevPress, hrp]
    dsimp only
    rw [if_neg (by omega), hbefore]
    exact atRest_cross_jumps c .backward rp.story before s

end Sys2Proof.Machine
end

section
/-! PROOF. An accepted REPORT from its characters to its ANSWER (R125 to R128, R130). -/

namespace Sys2Proof.Machine

/-! ## The levels of a REPORT (R124, R125) -/

theorem toInt_s8 {x : Int} (h1 : -128 ≤ x) (h2 : x ≤ 127) : (s8 x).toInt = x := by
  rw [s8, BitVec.toInt_ofInt]
  exact Int.bmod_eq_of_le (by omega) (by omega)

theorem toButtons_byte (b : Buttons) :
    b.byte.getLsbD 6 = false ∧ b.byte.getLsbD 7 = false ∧ toButtons b.byte = b := by
  obtain ⟨pause, mark, next, prev, take, release⟩ := b
  revert pause mark next prev take release
  decide

theorem toLevels_reportBody {d j : Int} (hd1 : -128 ≤ d) (hd2 : d ≤ 127) (hj1 : -128 ≤ j) (hj2 : j ≤ 127) (b : Buttons) :
    toLevels (reportBody d j b) = some ⟨max (-127) d, max (-63) (min 63 j), b⟩ := by
  obtain ⟨h6, h7, hb⟩ := toButtons_byte b
  rw [reportBody, toLevels, h6, h7, hb, toInt_s8 hd1 hd2, toInt_s8 hj1 hj2]
  rfl

theorem exec_report {p : Fin 4} {d j : Int} {s : State} (hd1 : -128 ≤ d) (hd2 : d ≤ 127) (hj1 : -128 ≤ j) (hj2 : j ≤ 127)
    (hs : StationReceives s p) (hrole : (s.station p).role ≠ .off) (b : Buttons) :
    exec (.stationReport p (portFrame (reportBody d j b))) s
      = .next (answer p .accepted (takeReport p ⟨max (-127) d, max (-63) (min 63 j), b⟩ s)) := by
  have hbody : (reportBody d j b).length = 3 := rfl
  refine (exec_stationReport hs (body := reportBody d j b) (by omega) (by omega)
    (checkByte (u8 (reportBody d j b).length :: reportBody d j b))).trans ?_
  rw [completeReport, if_neg hrole, checkPasses_checkByte, if_neg (by simp), toLevels_reportBody hd1 hd2 hj1 hj2]

/-! ## The ANSWER -/

theorem Station.offer_idle {st : Station} (h : st.sending = none) (a : Answer) :
    st.offer a = { st with sending := some a } := by rw [st.offer_eq, if_pos h]

theorem Station.offer_busy {st : Station} (h : st.sending ≠ none) (a : Answer) :
    st.offer a = { st with waitingAnswer := some a } := by rw [st.offer_eq, if_neg h]

theorem Station.offer_keeps (st : Station) (a : Answer) :
    st.offer a = { st with sending := (st.offer a).sending, waitingAnswer := (st.offer a).waitingAnswer } := by
  by_cases h : st.sending = none
  · rw [st.offer_idle h]
  · rw [st.offer_busy h]

theorem answer_tally (p : Fin 4) (status : AnswerStatus) (s : State) : (answer p status s).tally p = s.tally p := by
  have hkeeps := (s.station p).offer_keeps (formReply p status s)
  exact tally_modStation s p (by rw [hkeeps]) (by rw [hkeeps])

/-! ## What the arbiter leaves -/

/-- The arbiter leaves of a station but the reporting one everything but the overridden mark. -/
theorem settle_others {p r : Fin 4} (hr : r ≠ p) (d j : Int) (take release : Bool) (s : State) :
    (settle p d j take release s).station r
      = { s.station r with overridden := ((settle p d j take release s).station r).overridden } := by
  have hheld := (holdLevels_aside (s.station p).channel p d take release s).others r hr
  by_cases ho : (s.arbiter (s.station p).channel).owner = some p
  · cases release with
    | true =>
      rw [settle_release ho, leaveWaiting_station, depart_station_other hr, hheld]
    | false => rw [(settle_owner_keeps ho d j take).1 r, hheld]
  · by_cases hasks : Requests p d j take release s
    · rw [settle_claims ho hasks]
      unfold claim
      split
      · rw [becomeOwner_others _ hr, hheld]
      · dsimp only
        split
        · rw [setOverridden, State.modStation_station, becomeOwner_others _ hr, hheld]
          split
          · rename_i h
            rw [← h, becomeOwner_others _ hr, hheld]
          · rfl
        · split
          · rw [becomeOwner_others _ hr, hheld]
          · rw [joinWaiting_others _ hr, hheld]
    · rw [settle_quiet ho hasks, leaveWaiting_station, hheld]

/-- In `t` every channel has the state and the read point that it has in `s`. -/
def SamePoints (s t : State) : Prop :=
  ∀ c, (t.channel c).state = (s.channel c).state ∧ (t.channel c).readPoint = (s.channel c).readPoint

theorem calm_samePoints (s : State) : Calm (SamePoints s) where
  station t p f h _ c := by rw [State.modStation_channel]; exact h c
  marks t d h c := by
    have : (clearMarks d t).channel c = t.channel c := by cases c <;> rfl
    rw [this]
    exact h c
  arbiter t d r h c := by
    have : (t.setArbiter d r).channel c = t.channel c := by cases c <;> cases d <;> rfl
    rw [this]
    exact h c
  calm t d ch h htuned hunmoved c := by
    by_cases hc : c = d
    · subst hc
      rw [State.setChannel_same]
      exact ⟨htuned.1.trans (h c).1, hunmoved.1.trans (h c).2⟩
    · rw [State.setChannel_other _ hc]
      exact h c

theorem markPress_unloaded {c : ChannelId} {s : State} (h : (s.channel c).state = .unloaded) : markPress c s = s :=
  if_pos h

theorem applyReport_unloaded {p : Fin 4} {s : State} (h : (s.channel (s.station p).channel).state = .unloaded)
    (press : Buttons) (j : Int) : applyReport p press j s = s := if_pos h

theorem applyReport_other {p : Fin 4} {d : ChannelId} {s : State} (hd : d ≠ (s.station p).channel) (press : Buttons) (j : Int) :
    (applyReport p press j s).channel d = s.channel d := by
  unfold applyReport
  dsimp only
  split
  · rfl
  · simp only [apply_ite (fun t : State => t.channel d), recompute_other hd, jog_other hd, nextPress_other hd,
      prevPress_other hd, pausePress_other hd, ite_self]

/-! ## The REPORT -/

theorem pressesOf_eq (st : Station) (now : Buttons) :
    let hit := fun (get : Buttons → Bool) =>
      decide (st.state = .active) && get now && st.lastLevels.any (fun old => !get old.buttons)
    pressesOf st now = ⟨hit Buttons.pause, hit Buttons.mark, hit Buttons.next, hit Buttons.prev, hit Buttons.take,
      hit Buttons.release⟩ := by
  unfold pressesOf
  cases hstate : st.state <;> cases hlast : st.lastLevels <;> simp

/-- The presses and the jog of a REPORT at a channel that is not UNLOADED, case by case (R60). -/
theorem applyReport_loaded {p : Fin 4} {s : State} (h : (s.channel (s.station p).channel).state ≠ .unloaded)
    (press : Buttons) {j detents : Int} (hj : j ≠ 0 ↔ detents ≠ 0) :
    let c := (s.station p).channel
    let owns := (s.arbiter c).owner = some p
    let acts := owns ∨ (s.station p).role = .operator
    let s2 := if acts ∧ press.pause = true then pausePress c s else s
    let s3 := if acts ∧ press.next = true ∧ press.prev = false then nextPress c s2
      else if acts ∧ press.prev = true ∧ press.next = false then prevPress c s2 else s2
    let s4 := if owns ∧ detents ≠ 0 then jog c j s3 else s3
    applyReport p press j s = if owns then s4.setChannel c { s4.channel c with target := targetFor s4 c } else s4 := by
  unfold applyReport
  dsimp only
  rw [if_neg h]
  simp only [Bool.and_eq_true, Bool.or_eq_true, decide_eq_true_eq, Bool.not_eq_true', and_assoc, hj]
  rfl

/-- Sections 8.2, 8.3, 8.4, 3.3 to 3.6, 4.5, 7.5, 9.3 and 9.6. Settles O44. -/
theorem anAcceptedReportIsTakenAndAnswered : Obligations.AnAcceptedReportIsTakenAndAnswered := by
  refine ⟨?report, fun c s => ⟨pause_toggles c s, mark_records c s, next_jumps c s, prev_jumps c s⟩, jog_walks, ?bar⟩
  case report =>
    intro p d j b s hd1 hd2 hj1 hj2 hs hrole y c hit turn settled owns acts s1 s2 s3 s4 s5 u
    rw [exec_report hd1 hd2 hj1 hj2 hs hrole b]
    obtain ⟨-, -, hown, hother, honly⟩ := claimsAreSettledByRoleAndIdleTime p (max (-127) d) turn (hit Buttons.take)
      (hit Buttons.release) (acceptLevels p ⟨max (-127) d, turn, b⟩ s)
    have hothers (q : Fin 4) (hq : q ≠ p) := settle_others hq (max (-127) d) turn (hit Buttons.take)
      (hit Buttons.release) (acceptLevels p ⟨max (-127) d, turn, b⟩ s)
    have hpoints : SamePoints s settled := (calm_samePoints s).settle (s := acceptLevels p ⟨max (-127) d, turn, b⟩ s)
      ((calm_samePoints s).stationKeeps (fun _ => ⟨rfl, rfl⟩) p rfl) p ⟨by omega, by omega⟩ turn (hit Buttons.take)
      (hit Buttons.release)
    change settled.station p = _ at hown
    change settled = _ at honly
    rw [acceptLevels, State.modStation_same] at hown hother
    have hmark : ChannelsOnly settled s1 := by
      show ChannelsOnly settled (if hit Buttons.mark then markPress c settled else settled)
      split
      · exact channelsOnly_markPress c settled
      · exact .refl settled
    have hmark1 : s1.station p = settled.station p ∧ s1.arbiter c = settled.arbiter c := by
      rw [hmark]
      exact ⟨rfl, by cases c <;> rfl⟩
    have hbound : (s1.station p).channel = c ∧ (s1.station p).role = y.role := by
      rw [hmark1.1, hown]
      exact ⟨rfl, rfl⟩
    have hmarked : SamePoints s s1 := by
      show SamePoints s (if hit Buttons.mark then markPress c settled else settled)
      split
      · exact (calm_samePoints s).markPress hpoints c
      · exact hpoints
    have htake : takeReport p ⟨max (-127) d, turn, b⟩ s = applyReport p ⟨hit Buttons.pause, hit Buttons.mark,
        hit Buttons.next, hit Buttons.prev, hit Buttons.take, hit Buttons.release⟩ turn s1 := by
      unfold takeReport
      dsimp only
      rw [pressesOf_eq]
      rfl
    have hmoves : MovesOnly settled (takeReport p ⟨max (-127) d, turn, b⟩ s) := by
      rw [htake]
      exact hmark.movesOnly.trans (movesOnly_applyReport p _ turn s1)
    have hcalm (e : ChannelId) (he : e ≠ c) :
        (takeReport p ⟨max (-127) d, turn, b⟩ s).channel e = s.channel e := by
      have hs1 : s1.channel e = settled.channel e := by
        show (if hit Buttons.mark then markPress c settled else settled).channel e = settled.channel e
        simp only [apply_ite (fun t : State => t.channel e), markPress_other he, ite_self]
      rw [htake, applyReport_other (by rw [hbound.1]; exact he), hs1]
      exact (hother e he).1
    have hloaded : takeReport p ⟨max (-127) d, turn, b⟩ s = u := by
      rw [htake]
      by_cases hun : (s.channel c).state = .unloaded
      · have hself : s1 = settled := by
          show (if hit Buttons.mark then markPress c settled else settled) = settled
          rw [markPress_unloaded ((hpoints c).1.trans hun), ite_self]
        rw [applyReport_unloaded (by rw [hbound.1, (hmarked c).1, hun]), hself]
        exact (if_pos hun).symm
      · have hturn : turn ≠ 0 ↔ j ≠ 0 := by
          show max (-63) (min 63 j) ≠ 0 ↔ _
          omega
        rw [applyReport_loaded (by rw [hbound.1, (hmarked c).1]; exact hun) _ hturn]
        dsimp only
        rw [hbound.1, hbound.2, hmark1.2]
        exact (if_neg hun).symm
    have hunloaded : (s.channel c).state = .unloaded → u = settled := fun h => if_pos h
    rw [hloaded] at hmoves hcalm ⊢
    clear hloaded htake
    clear_value u
    have hstation (r : Fin 4) : u.station r = settled.station r := by
      rw [hmoves]
      rfl
    have harbiter (e : ChannelId) : u.arbiter e = settled.arbiter e := by
      rw [hmoves]
      cases e <;> rfl
    have hrecord := (hstation p).trans hown
    have hreply : formReply p .accepted u = ⟨.accepted, (answer p .accepted u).tally p,
        ((answer p .accepted u).channel c).speedBar, ((answer p .accepted u).channel c).paused⟩ := by
      rw [answer_tally, answer, State.modStation_channel, formReply, hrecord]
    have hown' : (answer p .accepted u).station p = (u.station p).offer (formReply p .accepted u) :=
      State.modStation_same u p _
    have hkeeps := (u.station p).offer_keeps (formReply p .accepted u)
    rw [← hown'] at hkeeps
    have hsending : (u.station p).sending = (s.station p).sending := by rw [hrecord]
    refine ⟨_, formReply p .accepted u, rfl, by rw [hkeeps, hrecord], by rw [hkeeps, hrecord], by rw [hkeeps, hrecord],
      by rw [hkeeps, hrecord], hreply, fun h => ?idle, fun h => ?busy, ?own, fun q hq => ?others, fun e he => ?channels,
      fun h => ?unloaded, fun q hq => State.modStation_other u hq _, hkeeps, rfl, ?frame⟩
    case idle =>
      rw [hown', Station.offer_idle (hsending.trans h), hrecord]
      exact ⟨rfl, rfl⟩
    case busy =>
      rw [hown', Station.offer_busy (by rw [hsending]; exact h), hrecord]
      exact ⟨rfl, rfl⟩
    case own =>
      rw [hkeeps, hrecord]
    case others =>
      rw [answer, State.modStation_other u hq, hstation]
      exact (hothers q hq).trans (by rw [acceptLevels, State.modStation_other s hq])
    case channels =>
      rw [answer, State.modStation_channel, State.modStation_arbiter, harbiter]
      exact ⟨hcalm e he, (hother e he).2⟩
    case unloaded =>
      have hsame := hunloaded h
      rw [answer, State.modStation_channel, hsame]
      refine ⟨?_, ?_, ?_, (hpoints c).2⟩ <;> (rw [honly]; rfl)
    case frame =>
      show { u with stations := _ } = _
      rw [hmoves, honly]
      rfl
  case bar =>
    refine fun ch => ⟨fun h => if_pos h, fun h => ?_, fun h => ?_, fun h => ?_⟩
    · rw [Channel.speedBar, if_neg (by omega), if_pos h]
    · rw [Channel.speedBar, if_neg (by omega), if_neg (by omega)]
    · obtain ⟨ht, hlo, hhi, -⟩ := h
      obtain ⟨h1, -, h2, -⟩ := ht
      unfold Channel.speedBar
      split
      · exact Nat.div_le_of_le_mul (by omega)
      · split
        · exact Nat.div_le_of_le_mul (by omega)
        · exact Nat.zero_le _

end Sys2Proof.Machine
end

section
/-! PROOF. What thins the rundown (R6 to R10): stories leave it or stop being readable, and none of those left changes its
shape or becomes readable. -/

namespace Sys2Proof.Machine

/-! ## Shapes -/

/-- The story `y` has the ID of `x`, and lines of the same height classes. -/
def SameShape (x y : Story) : Prop := y.id = x.id ∧ y.lines.map Line.cls = x.lines.map Line.cls

theorem SameShape.refl (x : Story) : SameShape x x := ⟨rfl, rfl⟩

theorem SameShape.trans {x y z : Story} (h1 : SameShape x y) (h2 : SameShape y z) : SameShape x z :=
  ⟨h2.1.trans h1.1, h2.2.trans h1.2⟩

theorem SameShape.places {x y : Story} (h : SameShape x y) : SamePlaces x { y with g := x.g, pendingG := x.pendingG } :=
  ⟨h.1, rfl, rfl, h.2⟩

theorem SameShape.holds {x y : Story} (h : SameShape x y) (t : Heights) (rp : ReadPoint) :
    y.holds t rp ↔ x.holds t rp := h.places.holds t rp

theorem SameShape.lastPoint {x y : Story} (h : SameShape x y) (t : Heights) : y.lastPoint t = x.lastPoint t :=
  h.places.lastPoint t

/-- The story `y` has the shape of `x`, and is readable only if `x` is. -/
def Fades (x y : Story) : Prop := SameShape x y ∧ (y.readable = true → x.readable = true)

theorem Fades.refl (x : Story) : Fades x x := ⟨.refl x, id⟩

theorem Fades.unreadable {x y : Story} (h : Fades x y) (hx : x.readable = false) : y.readable = false :=
  Bool.eq_false_iff.mpr fun hy => Bool.false_ne_true (hx.symm.trans (h.2 hy))

/-! ## Lists of stories -/

theorem find?_map_of_id {l : List Story} {f : Story → Story} (hf : ∀ x ∈ l, (f x).id = x.id) (i : Nat) :
    (l.map f).find? (fun x => x.id == i) = (l.find? (fun x => x.id == i)).map f := by
  induction l with
  | nil => rfl
  | cons x xs ih =>
    obtain ⟨hx, hxs⟩ := List.forall_mem_cons.mp hf
    rw [List.map_cons, List.find?_cons, List.find?_cons, hx, ih hxs]
    cases x.id == i <;> rfl

theorem dropWhile_map_of_id {l : List Story} {f : Story → Story} (hf : ∀ x ∈ l, (f x).id = x.id) (i : Nat) :
    (l.map f).dropWhile (fun x => x.id != i) = (l.dropWhile (fun x => x.id != i)).map f := by
  induction l with
  | nil => rfl
  | cons x xs ih =>
    obtain ⟨hx, hxs⟩ := List.forall_mem_cons.mp hf
    rw [List.map_cons, List.dropWhile_cons, List.dropWhile_cons, hx, ih hxs]
    split <;> rfl

theorem takeWhile_map_of_id {l : List Story} {f : Story → Story} (hf : ∀ x ∈ l, (f x).id = x.id) (i : Nat) :
    (l.map f).takeWhile (fun x => x.id != i) = (l.takeWhile (fun x => x.id != i)).map f := by
  induction l with
  | nil => rfl
  | cons x xs ih =>
    obtain ⟨hx, hxs⟩ := List.forall_mem_cons.mp hf
    rw [List.map_cons, List.takeWhile_cons, List.takeWhile_cons, hx, ih hxs]
    split <;> rfl

theorem dropWhile_removeStory {id i : Nat} (hi : i ≠ id) (l : List Story) :
    (removeStory id l).dropWhile (fun x => x.id != i) = removeStory id (l.dropWhile (fun x => x.id != i)) := by
  unfold removeStory
  induction l with
  | nil => rfl
  | cons x xs ih =>
    by_cases hx : x.id = id
    · rw [List.filter_cons_of_neg (by simp [hx]), List.dropWhile_cons_of_pos (by simp [hx, Ne.symm hi]), ih]
    · rw [List.filter_cons_of_pos (by simpa using hx)]
      by_cases hxi : x.id = i
      · rw [List.dropWhile_cons_of_neg (by simp [hxi]), List.dropWhile_cons_of_neg (by simp [hxi]),
          List.filter_cons_of_pos (by simpa using hx)]
      · rw [List.dropWhile_cons_of_pos (by simp [hxi]), List.dropWhile_cons_of_pos (by simp [hxi]), ih]

theorem takeWhile_removeStory {id i : Nat} (hi : i ≠ id) (l : List Story) :
    (removeStory id l).takeWhile (fun x => x.id != i) = removeStory id (l.takeWhile (fun x => x.id != i)) := by
  unfold removeStory
  induction l with
  | nil => rfl
  | cons x xs ih =>
    by_cases hx : x.id = id
    · rw [List.filter_cons_of_neg (by simp [hx]), List.takeWhile_cons_of_pos (by simp [hx, Ne.symm hi]),
        List.filter_cons_of_neg (by simp [hx]), ih]
    · rw [List.filter_cons_of_pos (by simpa using hx)]
      by_cases hxi : x.id = i
      · rw [List.takeWhile_cons_of_neg (by simp [hxi]), List.takeWhile_cons_of_neg (by simp [hxi]), List.filter_nil]
      · rw [List.takeWhile_cons_of_pos (by simp [hxi]), List.takeWhile_cons_of_pos (by simp [hxi]),
          List.filter_cons_of_pos (by simpa using hx), ih]

theorem mem_drop_one_removeStory {id : Nat} {l : List Story} {x : Story} (h : x ∈ (removeStory id l).drop 1) :
    x ∈ l.drop 1 := by
  cases l with
  | nil => exact h
  | cons y ys =>
    refine mem_of_mem_removeStory (id := id) ?_
    unfold removeStory at h ⊢
    rw [List.filter_cons] at h
    split at h
    · exact h
    · exact List.mem_of_mem_drop h

theorem readableAfter_eq_nil {s : State} {i : Nat} : s.readableAfter i = [] ↔
    ∀ x ∈ (s.stories.dropWhile (fun st => st.id != i)).drop 1, x.readable = false := by
  rw [State.readableAfter, List.map_eq_nil_iff, List.filter_eq_nil_iff]
  simp only [Bool.not_eq_true]

theorem readableBefore_eq_nil {s : State} {i : Nat} : s.readableBefore i = [] ↔
    ∀ x ∈ s.stories.takeWhile (fun st => st.id != i), x.readable = false := by
  rw [State.readableBefore, List.map_eq_nil_iff, List.filter_eq_nil_iff]
  simp only [Bool.not_eq_true, List.mem_reverse]

/-! ## Thinning -/

/-- Every story live in `t` is live in `s` with its shape, and no story has more readable stories around it. -/
structure Thins (s t : State) : Prop where
  heights : t.heights = s.heights
  traced : ∀ i y, t.story? i = some y → ∃ x, s.story? i = some x ∧ SameShape x y
  after : ∀ i, s.readableAfter i = [] → t.readableAfter i = []
  before : ∀ i, t.isLive i = true → s.readableBefore i = [] → t.readableBefore i = []

theorem Thins.isLive {s t : State} (h : Thins s t) {i : Nat} (hi : t.isLive i = true) : s.isLive i = true := by
  obtain ⟨y, hy⟩ := Option.isSome_iff_exists.mp hi
  obtain ⟨x, hx, -⟩ := h.traced i y hy
  rw [State.isLive, hx]
  rfl

theorem Thins.of_eq {s t : State} (hh : t.heights = s.heights) (h : t.stories = s.stories) : Thins s t where
  heights := hh
  traced i y hy := ⟨y, (story?_of_stories h i).symm.trans hy, .refl y⟩
  after i hi := by
    rw [readableAfter_eq_nil, h]
    exact readableAfter_eq_nil.mp hi
  before i _ hi := by
    rw [readableBefore_eq_nil, h]
    exact readableBefore_eq_nil.mp hi

theorem Thins.refl (s : State) : Thins s s := .of_eq rfl rfl

theorem Thins.trans {s t u : State} (h1 : Thins s t) (h2 : Thins t u) : Thins s u where
  heights := h2.heights.trans h1.heights
  traced i z hz := by
    obtain ⟨y, hy, hyz⟩ := h2.traced i z hz
    obtain ⟨x, hx, hxy⟩ := h1.traced i y hy
    exact ⟨x, hx, hxy.trans hyz⟩
  after i hi := h2.after i (h1.after i hi)
  before i hl hi := h2.before i hl (h1.before i (h2.isLive hl) hi)

/-- A change of the records that makes none readable leaves no story more readable stories around it. -/
theorem readable_nil_of_map {s t : State} {f : Story → Story} (h : t.stories = s.stories.map f)
    (hid : ∀ x ∈ s.stories, (f x).id = x.id) (hr : ∀ x ∈ s.stories, x.readable = false → (f x).readable = false) (i : Nat) :
    (s.readableAfter i = [] → t.readableAfter i = []) ∧ (s.readableBefore i = [] → t.readableBefore i = []) := by
  refine ⟨fun hi => ?_, fun hi => ?_⟩
  · rw [readableAfter_eq_nil] at hi ⊢
    rw [h, dropWhile_map_of_id hid, ← List.map_drop]
    intro y hy
    obtain ⟨x, hx, rfl⟩ := List.mem_map.mp hy
    exact hr x ((List.dropWhile_sublist _).subset (List.mem_of_mem_drop hx)) (hi x hx)
  · rw [readableBefore_eq_nil] at hi ⊢
    rw [h, takeWhile_map_of_id hid]
    intro y hy
    obtain ⟨x, hx, rfl⟩ := List.mem_map.mp hy
    exact hr x ((List.takeWhile_sublist _).subset hx) (hi x hx)

/-- A change of the records that keeps their shapes and makes none readable. -/
theorem Thins.map {s t : State} {f : Story → Story} (hh : t.heights = s.heights) (h : t.stories = s.stories.map f)
    (hf : ∀ x ∈ s.stories, Fades x (f x)) : Thins s t := by
  have hid : ∀ x ∈ s.stories, (f x).id = x.id := fun x hx => (hf x hx).1.1
  have hnil := readable_nil_of_map h hid fun x hx => (hf x hx).unreadable
  refine ⟨hh, fun i y hy => ?_, fun i => (hnil i).1, fun i _ => (hnil i).2⟩
  rw [State.story?, h, find?_map_of_id hid] at hy
  obtain ⟨x, hx, rfl⟩ := Option.map_eq_some_iff.mp hy
  exact ⟨x, hx, (hf x (List.mem_of_find?_eq_some hx)).1⟩

theorem Thins.modStory {s : State} (id : Nat) {f : Story → Story} (hf : ∀ x ∈ s.stories, x.id = id → Fades x (f x)) :
    Thins s (s.modStory id f) := by
  refine .map rfl rfl fun x hx => ?_
  split
  · rename_i hid
    exact hf x hx hid
  · exact .refl x

theorem Thins.remove {s t : State} {id : Nat} (hh : t.heights = s.heights) (h : t.stories = removeStory id s.stories) :
    Thins s t := by
  refine ⟨hh, fun i y hy => ?_, fun i hi => ?_, fun i hl hi => ?_⟩
  · by_cases he : i = id
    · rw [he, story?_removeStory_self h] at hy
      exact nomatch hy
    · exact ⟨y, (story?_removeStory h he).symm.trans hy, .refl y⟩
  · by_cases he : i = id
    · rw [he]
      exact readableAfter_gone (story?_removeStory_self h)
    · rw [readableAfter_eq_nil] at hi ⊢
      rw [h, dropWhile_removeStory he]
      exact fun x hx => hi x (mem_drop_one_removeStory hx)
  · have he : i ≠ id := fun e => by
      rw [e, State.isLive, story?_removeStory_self h] at hl
      exact nomatch hl
    rw [readableBefore_eq_nil] at hi ⊢
    rw [h, takeWhile_removeStory he]
    exact fun x hx => hi x (mem_of_mem_removeStory hx)

theorem Thins.retire (id : Nat) (s : State) : Thins s (retire id s) := by
  cases h : s.story? id with
  | none => rw [retire_absent h]; exact .refl s
  | some st => exact .remove (by rw [retire_frame]) (retire_live h).1

theorem Thins.kill (id : Nat) (s : State) : Thins s (kill id s).1 := by
  cases h : s.story? id with
  | none => simpa [Machine.kill, h] using Thins.refl s
  | some st =>
    rcases kill_cases h with ⟨-, e⟩ | ⟨-, -, e⟩ | ⟨-, -, e⟩ <;> rw [e]
    · exact .retire id s
    · exact .refl s
    · exact (Thins.modStory id (f := fun x => { x with air := .doomed }) fun x _ _ =>
        ⟨⟨rfl, rfl⟩, fun h => by simp [Story.readable] at h⟩).trans (.of_eq rfl rfl)

theorem fades_left (c : ChannelId) (kind : LeaveKind) (lead : Bool) (x : Story) : Fades x (x.left c kind lead) := by
  refine ⟨⟨x.left_id c kind lead, (x.left_geometry c kind lead).2.2⟩, fun h => ?_⟩
  have hleft : (x.left c kind lead).readable = (!x.floated && airAfterLeave kind lead x.air != .doomed) := by
    cases c <;> rfl
  have hair : (airAfterLeave kind lead x.air != .doomed) = (x.air != .doomed) := by
    cases kind <;> cases lead <;> cases x.air <;> rfl
  rwa [hleft, hair] at h

theorem fades_setOpen (c : ChannelId) (v : Bool) (x : Story) : Fades x (x.setOpen c v) := by
  cases c <;> exact ⟨⟨rfl, rfl⟩, id⟩

theorem Thins.leave (c : ChannelId) (id : Nat) (kind : LeaveKind) (s : State) : Thins s (leave c id kind s) :=
  leave_keeps c id kind (.refl s) (.modStory id fun x _ _ => fades_left c kind _ x) (fun u hu => hu.trans (.retire id u))
    (fun u hu => hu.trans (.kill id u))

/-- Thinning, from one state on, is made of the small acts. -/
theorem thins_soft (s : State) : Soft (Thins s) where
  station t p f h _ := h.trans (.of_eq rfl rfl)
  marks t c h := h.trans (.of_eq rfl rfl)
  arbiter t c r h := h.trans (.of_eq (State.setArbiter_heights t c r) (State.setArbiter_stories t c r))
  tuned t c ch h _ := h.trans (.of_eq (State.setChannel_heights t c ch) (State.setChannel_stories t c ch))
  emptied t c ch h _ := h.trans (.of_eq (State.setChannel_heights t c ch) (State.setChannel_stories t c ch))
  left t c id kind h := h.trans (.leave c id kind t)
  entered t c id h := h.trans (.modStory id fun x _ _ => fades_setOpen c true x)
  reported t c id k h := by
    rcases reportLine_cases c id k t with e | ⟨_, l, o, _, _, _, e⟩ <;> rw [e]
    · exact h
    · exact h.trans ((Thins.modStory id (f := fun st => { st with
        lines := st.lines.modify (k - 1) (fun l => { l with fired := true }) })
        fun x _ _ => ⟨⟨rfl, cls_modify_fired _ _⟩, fun hr => hr⟩).trans (.of_eq rfl rfl))

end Sys2Proof.Machine
end

section
/-! PROOF. Where a read point may stand (R44, R56 to R59): inside its story, and at the edges when END or START is set. The
movements of a channel keep it there. -/

namespace Sys2Proof.Machine

/-! ## The place of a read point -/

/-- The read point of a channel lies inside its story, on the last row with END set and on the first with START set. -/
def PlacedAt (s : State) (c : ChannelId) : Prop :=
  ∀ rp st, (s.channel c).readPoint = some rp → s.story? rp.story = some st → st.holds s.heights rp
    ∧ ((s.channel c).endFlag = true → rp = st.lastPoint s.heights)
    ∧ ((s.channel c).startFlag = true → rp = ⟨st.id, 0, 0, 0⟩)

/-- With END set no readable story lies after the story of the read point, with START set none before it. -/
def EdgedAt (s : State) (c : ChannelId) : Prop :=
  ∀ rp st, (s.channel c).readPoint = some rp → s.story? rp.story = some st →
    ((s.channel c).endFlag = true → s.readableAfter st.id = [])
    ∧ ((s.channel c).startFlag = true → s.readableBefore st.id = [])

/-- Both channels stand where they may. -/
def InPlace (s : State) : Prop := ∀ c, PlacedAt s c ∧ EdgedAt s c

theorem inPlace_iff (s : State) : InPlace s ↔ ReadPointsInside s ∧ ClampsAtEdges s := by
  constructor
  · refine fun h => ⟨fun c _ rp hrp st hst => ((h c).1 rp st hrp hst).1.2, fun c _ rp hrp st hst => ?_⟩
    obtain ⟨-, hend, hstart⟩ := (h c).1 rp st hrp hst
    obtain ⟨hafter, hbefore⟩ := (h c).2 rp st hrp hst
    exact ⟨fun e => ⟨hend e, hafter e⟩, fun e => ⟨hstart e, hbefore e⟩⟩
  · rintro ⟨hin, hedge⟩ c
    have hc : c ∈ [ChannelId.a, ChannelId.b] := by cases c <;> simp
    refine ⟨fun rp st hrp hst => ?_, fun rp st hrp hst => ?_⟩ <;>
      obtain ⟨hend, hstart⟩ := hedge c hc rp hrp st hst
    · exact ⟨⟨(State.story?_id hst).symm, hin c hc rp hrp st hst⟩, fun e => (hend e).1, fun e => (hstart e).1⟩
    · exact ⟨fun e => (hend e).2, fun e => (hstart e).2⟩

theorem unmoved_of_eq {s t : State} {c : ChannelId} (h : t.channel c = s.channel c) : Unmoved s c (t.channel c) := by
  rw [h]
  exact ⟨rfl, id, id⟩

theorem PlacedAt.thins {s t : State} {c : ChannelId} (h : PlacedAt s c) (ht : Thins s t)
    (hu : Unmoved s c (t.channel c)) : PlacedAt t c := by
  intro rp st hrp hst
  obtain ⟨x, hx, hshape⟩ := ht.traced _ st hst
  obtain ⟨hin, hend, hstart⟩ := h rp x (hu.1.symm.trans hrp) hx
  rw [ht.heights, hshape.holds, hshape.lastPoint, hshape.1]
  exact ⟨hin, fun e => hend (hu.2.1 e), fun e => hstart (hu.2.2 e)⟩

theorem EdgedAt.thins {s t : State} {c : ChannelId} (h : EdgedAt s c) (ht : Thins s t)
    (hu : Unmoved s c (t.channel c)) : EdgedAt t c := by
  intro rp st hrp hst
  obtain ⟨x, hx, hshape⟩ := ht.traced _ st hst
  obtain ⟨hend, hstart⟩ := h rp x (hu.1.symm.trans hrp) hx
  have hlive : t.isLive x.id = true := by
    rw [← hshape.1, State.story?_id hst]
    exact isLive_of_story? hst
  rw [hshape.1]
  exact ⟨fun e => ht.after _ (hend (hu.2.1 e)), fun e => ht.before _ hlive (hstart (hu.2.2 e))⟩

/-- A channel that has no read point stands where it may. -/
theorem inPlace_of_none {s : State} {c : ChannelId} (h : (s.channel c).readPoint = none) : PlacedAt s c ∧ EdgedAt s c :=
  ⟨fun _ _ hrp => (nomatch h.symm.trans hrp), fun _ _ hrp => (nomatch h.symm.trans hrp)⟩

/-- A channel that has arrived at a place of a story `x` of the rundown before. -/
theorem inPlace_at {s t : State} {c : ChannelId} {x : Story} {rp : ReadPoint} (ht : Thins s t)
    (hx : s.story? x.id = some x) (hrp : (t.channel c).readPoint = some rp) (hin : x.holds s.heights rp)
    (hend : (t.channel c).endFlag = true → rp = x.lastPoint s.heights ∧ s.readableAfter x.id = [])
    (hstart : (t.channel c).startFlag = true → rp = ⟨x.id, 0, 0, 0⟩ ∧ s.readableBefore x.id = []) :
    PlacedAt t c ∧ EdgedAt t c := by
  have hfound (rp' : ReadPoint) (st : Story) (hrp' : (t.channel c).readPoint = some rp')
      (hst : t.story? rp'.story = some st) : rp' = rp ∧ SameShape x st ∧ t.isLive x.id = true := by
    obtain rfl : rp' = rp := Option.some_inj.mp (hrp'.symm.trans hrp)
    obtain ⟨y, hy, hshape⟩ := ht.traced _ st hst
    rw [hin.1] at hy hst
    rw [hx] at hy
    cases hy
    exact ⟨rfl, hshape, isLive_of_story? hst⟩
  refine ⟨fun rp' st hrp' hst => ?_, fun rp' st hrp' hst => ?_⟩ <;>
    obtain ⟨rfl, hshape, hlive⟩ := hfound rp' st hrp' hst
  · rw [ht.heights, hshape.holds, hshape.lastPoint, hshape.1]
    exact ⟨hin, fun e => (hend e).1, fun e => (hstart e).1⟩
  · rw [hshape.1]
    exact ⟨fun e => ht.after _ (hend e).2, fun e => ht.before _ hlive (hstart e).2⟩

/-- What moves one channel, and leaves the other channels and thins the rundown. -/
theorem InPlace.moved {s t : State} (h : InPlace s) (ht : Thins s t) {c : ChannelId}
    (hother : ∀ d, d ≠ c → t.channel d = s.channel d) (hc : PlacedAt t c ∧ EdgedAt t c) : InPlace t := by
  intro d
  by_cases hd : d = c
  · exact hd ▸ hc
  · have hu := unmoved_of_eq (hother d hd)
    exact ⟨(h d).1.thins ht hu, (h d).2.thins ht hu⟩

/-- What moves no channel and thins the rundown. -/
theorem InPlace.thins {s t : State} (h : InPlace s) (ht : Thins s t) (hu : ∀ c, Unmoved s c (t.channel c)) : InPlace t :=
  fun c => ⟨(h c).1.thins ht (hu c), (h c).2.thins ht (hu c)⟩

/-! ## What the movements rest on -/

theorem Moves.and {P Q : State → Prop} (hP : Moves P) (hQ : Moves Q) : Moves (fun s => P s ∧ Q s) where
  calm :=
    { station := fun s p f h hf => ⟨hP.calm.station s p f h.1 hf, hQ.calm.station s p f h.2 hf⟩
      marks := fun s c h => ⟨hP.calm.marks s c h.1, hQ.calm.marks s c h.2⟩
      arbiter := fun s c r h => ⟨hP.calm.arbiter s c r h.1, hQ.calm.arbiter s c r h.2⟩
      calm := fun s c ch h ht hu => ⟨hP.calm.calm s c ch h.1 ht hu, hQ.calm.calm s c ch h.2 ht hu⟩ }
  next s c h := ⟨hP.next s c h.1, hQ.next s c h.2⟩
  prev s c h := ⟨hP.prev s c h.1, hQ.prev s c h.2⟩
  jog s c j h := ⟨hP.jog s c j h.1, hQ.jog s c j h.2⟩
  ramp s c h := ⟨hP.ramp s c h.1, hQ.ramp s c h.2⟩

/-- The stories, the open sets, the geometry and the speeds are sound. -/
def Grounded (s : State) : Prop := (StoriesDistinct s ∧ OpenSetsExact s) ∧ GeometryExact s ∧ SpeedsBounded s

theorem grounded_moves : Moves Grounded :=
  openSets_travels.moves.and (geometryExact_soft.moves.and speedsBounded_soft.moves)

/-- The story of a read point is live (R44). -/
theorem Grounded.located {s : State} (hs : Grounded s) {c : ChannelId} {rp : ReadPoint}
    (hrp : (s.channel c).readPoint = some rp) : ∃ st, s.story? rp.story = some st := by
  have hlive := ((openSetsExact_iff s).mp hs.1.2 c).1.live rp.story (Travels.storyId_of_readPoint hrp)
  exact story?_of_isLive (State.isLive_iff_mem.mpr hlive)

theorem story?_self {s : State} {id : Nat} {st : Story} (h : s.story? id = some st) : s.story? st.id = some st := by
  rwa [State.story?_id h]

theorem lastPoint_ne_top (st : Story) (h : Heights) (id : Nat) : st.lastPoint h ≠ ⟨id, 0, 0, 0⟩ := fun e =>
  absurd (congrArg ReadPoint.frac e) (by simp [Story.lastPoint])

/-- The last place of a story lies one unit above its end. -/
theorem Story.distance_lastPoint (st : Story) {h : Heights} (hb : HeightsBounded h) :
    st.distance h (st.lastPoint h) + 1 = 256 * geometryOf h st.lines := by
  have hhigh := st.heightAt_ge hb (Nat.le_refl st.n)
  have hend := st.rowOf_end h
  rw [st.rowOf_eq] at hend
  rw [Story.distance, Story.lastPoint, st.rowOf_eq]
  dsimp only
  omega

/-! ## A step expiry -/

theorem rampAndMove_empty {c : ChannelId} {s : State} (h : (s.channel c).readPoint = none) :
    ((rampAndMove c s).channel c).readPoint = none := by
  have hramped : ((ramped c (s.rampedSpeed c) s).channel c).readPoint = none := by
    rw [ramped_channel]
    exact h
  rcases Int.lt_trichotomy (s.rampedSpeed c) 0 with hneg | hzero | hpos
  · rw [rampAndMove_backward hneg, stepBackward, hramped]
    exact hramped
  · rw [rampAndMove_rest hzero]
    exact hramped
  · rw [rampAndMove_forward hpos, stepForward, hramped]
    exact hramped

section

variable {s : State} {c : ChannelId} {rp : ReadPoint} {st : Story} (hs : Grounded s) (h : InPlace s)
  (ht : Thins s (rampAndMove c s)) (hrp : (s.channel c).readPoint = some rp) (hst : s.story? rp.story = some st)

include hs h ht hrp hst

/-- A step past the end of the story stops at END, or stands in the slug band of the next readable story. -/
theorem inPlace_pastEnd (hpast : 256 * (geometryOf s.heights st.lines : Int) ≤ st.distance s.heights rp + s.rampedSpeed c) :
    PlacedAt (rampAndMove c s) c ∧ EdgedAt (rampAndMove c s) c := by
  obtain ⟨hin, -, hstart⟩ := (h c).1 rp st hrp hst
  obtain ⟨hafter, -⟩ := (h c).2 rp st hrp hst
  obtain ⟨-, hgeometry, hspeeds⟩ := hs
  have hb := hgeometry.1
  obtain ⟨hclamp, hcross⟩ := rampAndMove_pastEnd hrp hst hin hb hspeeds hpast
  cases hnext : s.readableAfter st.id with
  | nil =>
    have hch := clampEnd_channel c st true (ramped c (s.rampedSpeed c) s)
    rw [← hclamp hnext, ramped_channel, (sameShow_ramped c (s.rampedSpeed c) s).2.2] at hch
    refine inPlace_at ht (story?_self hst) (by rw [hch]) (st.lastPoint_holds hb) (fun _ => ⟨rfl, hnext⟩) (fun e => ?_)
    rw [hch] at e
    obtain ⟨e1, e2⟩ := Bool.and_eq_true_iff.mp e
    have hsame := Option.some_inj.mp (hrp.symm.trans (of_decide_eq_true e2))
    exact absurd (hsame.symm.trans (hstart e1)) (lastPoint_ne_top st _ _)
  | cons next rest =>
    obtain ⟨o, frac, ho, hf, -, heq⟩ := hcross next rest hnext
    obtain ⟨st', hst'⟩ := story?_of_isLive
      (isLive_of_readableAfter (hnext ▸ List.mem_cons_self : next ∈ s.readableAfter st.id))
    obtain ⟨-, -, hch⟩ := movedForward_cross (c := c) (speed := s.rampedSpeed c) (old := st.id)
      (rp := ⟨next, 0, o, frac⟩) (s := s)
    rw [← heq] at hch
    have hhigh := st'.heightAt_ge hb (Nat.zero_le st'.n)
    refine inPlace_at ht (story?_self hst') (by rw [hch])
      ⟨(State.story?_id hst').symm, Nat.zero_le _, by dsimp only; omega, hf⟩ (fun e => ?_) (fun e => ?_) <;> rw [hch] at e
    · exact nomatch hnext.symm.trans (hafter e)
    · exact nomatch e

/-- A step past the top of the story stops at START, or stands in the last line of the readable story before it. -/
theorem inPlace_pastStart (hback : st.distance s.heights rp + s.rampedSpeed c < 0) :
    PlacedAt (rampAndMove c s) c ∧ EdgedAt (rampAndMove c s) c := by
  obtain ⟨hin, hend, -⟩ := (h c).1 rp st hrp hst
  obtain ⟨-, hbefore⟩ := (h c).2 rp st hrp hst
  obtain ⟨-, hgeometry, hspeeds⟩ := hs
  have hb := hgeometry.1
  obtain ⟨hclamp, hcross⟩ := rampAndMove_pastStart hrp hst hin hb hspeeds hback
  cases hbehind : s.readableBefore st.id with
  | nil =>
    have hch := clampStart_channel c st true (ramped c (s.rampedSpeed c) s)
    rw [← hclamp hbehind, ramped_channel] at hch
    refine inPlace_at ht (story?_self hst) (by rw [hch]) (st.firstPoint_holds hb) (fun e => ?_) (fun _ => ⟨rfl, hbehind⟩)
    rw [hch] at e
    obtain ⟨e1, e2⟩ := Bool.and_eq_true_iff.mp e
    have hsame := Option.some_inj.mp (hrp.symm.trans (of_decide_eq_true e2))
    exact absurd ((hend e1).symm.trans hsame) (lastPoint_ne_top st _ _)
  | cons before rest =>
    obtain ⟨st', hst'⟩ := story?_of_isLive
      (isLive_of_readableBefore (hbehind ▸ List.mem_cons_self : before ∈ s.readableBefore st.id))
    obtain ⟨rp', hin', -, -, heq⟩ := hcross before rest st' hbehind hst'
    obtain ⟨-, -, hch⟩ := movedBackward_cross (c := c) (speed := s.rampedSpeed c) (old := st.id) (rp := rp') (s := s)
    rw [← heq] at hch
    refine inPlace_at ht (story?_self hst') (by rw [hch]) hin' (fun e => ?_) (fun e => ?_) <;> rw [hch] at e
    · exact nomatch e
    · exact nomatch hbehind.symm.trans (hbefore e)

/-- A step that moves within the story leaves the edge at which END or START is set. -/
theorem inPlace_within (hzero : s.rampedSpeed c ≠ 0) (hfirst : 0 ≤ st.distance s.heights rp + s.rampedSpeed c)
    (hlast : st.distance s.heights rp + s.rampedSpeed c < 256 * (geometryOf s.heights st.lines : Int)) :
    PlacedAt (rampAndMove c s) c ∧ EdgedAt (rampAndMove c s) c := by
  obtain ⟨hin, hend, hstart⟩ := (h c).1 rp st hrp hst
  obtain ⟨-, hgeometry, hspeeds⟩ := hs
  have hbottom := st.distance_lastPoint hgeometry.1
  obtain ⟨-, -, -, -, -, rp', hin', -, hch⟩ := staysInside hrp hst hin hgeometry.1 hspeeds hfirst hlast
  refine inPlace_at ht (story?_self hst) (by rw [hch]) hin' (fun e => ?_) (fun e => ?_) <;> rw [hch] at e <;>
    obtain ⟨e1, e2⟩ := Bool.and_eq_true_iff.mp e <;>
    simp only [Bool.not_eq_true', decide_eq_false_iff_not] at e2
  · rw [hend e1] at hlast
    omega
  · have htop : st.distance s.heights rp = 0 := by rw [hstart e1]; rfl
    omega

end

/-- Without speed the read point stays where it is. -/
theorem inPlace_rest {s : State} {c : ChannelId} (h : InPlace s) (ht : Thins s (rampAndMove c s))
    (hzero : s.rampedSpeed c = 0) : PlacedAt (rampAndMove c s) c ∧ EdgedAt (rampAndMove c s) c := by
  have hu : Unmoved s c ((rampAndMove c s).channel c) := by
    rw [rampAndMove_rest hzero, ramped_channel]
    exact ⟨rfl, id, id⟩
  exact ⟨(h c).1.thins ht hu, (h c).2.thins ht hu⟩

theorem InPlace.ramp {s : State} (hs : Grounded s) (h : InPlace s) (c : ChannelId) : InPlace (rampAndMove c s) := by
  have ht : Thins s (rampAndMove c s) := (thins_soft s).moves.ramp s c (.refl s)
  refine h.moved ht (fun d hd => rampAndMove_other hd s) ?_
  cases hrp : (s.channel c).readPoint with
  | none => exact inPlace_of_none (rampAndMove_empty hrp)
  | some rp =>
    obtain ⟨st, hst⟩ := hs.located hrp
    by_cases hzero : s.rampedSpeed c = 0
    · exact inPlace_rest h ht hzero
    by_cases hpast : 256 * (geometryOf s.heights st.lines : Int) ≤ st.distance s.heights rp + s.rampedSpeed c
    · exact inPlace_pastEnd hs h ht hrp hst hpast
    by_cases hback : st.distance s.heights rp + s.rampedSpeed c < 0
    · exact inPlace_pastStart hs h ht hrp hst hback
    · exact inPlace_within hs h ht hrp hst hzero (by omega) (by omega)

end Sys2Proof.Machine
end

section
/-! PROOF. Jogs and presses keep the read point inside its story (R60 to R64, R80 to R82). -/

namespace Sys2Proof.Machine

/-! ## The split of a jog's path -/

/-- A walk forward of `n` rows from the top of the first story ends in a story of its path, or passes the last one. -/
theorem forward_split (path : List Story) : ∀ (st : Story) (n : Nat), ∃ gone x rest, st :: path = gone ++ x :: rest
    ∧ (gone.map Story.g).sum ≤ n ∧ (n < (gone.map Story.g).sum + x.g ∨ ((gone.map Story.g).sum + x.g ≤ n ∧ rest = [])) := by
  induction path with
  | nil =>
    intro st n
    exact ⟨[], st, [], rfl, Nat.zero_le n, (Nat.lt_or_ge n _).imp_right fun h => ⟨h, rfl⟩⟩
  | cons next path ih =>
    intro st n
    by_cases hn : n < st.g
    · exact ⟨[], st, next :: path, rfl, Nat.zero_le n, .inl (by simpa using hn)⟩
    · obtain ⟨gone, x, rest, hpath, hle, hends⟩ := ih next (n - st.g)
      refine ⟨st :: gone, x, rest, by rw [hpath, List.cons_append], ?_, ?_⟩ <;> rw [List.map_cons, List.sum_cons]
      · omega
      · exact hends.imp (by omega) fun ⟨hle', hrest⟩ => ⟨by omega, hrest⟩

/-- A walk backward of `d` rows from row `row` of the first story ends in a story of its path, or passes the last one. -/
theorem backward_split (path : List Story) (d : Nat) : ∀ (st : Story) (row : Nat), ∃ gone x rest,
    st :: path = gone ++ x :: rest
    ∧ (gone = [] ∨ row + (((gone ++ [x]).drop 1).map Story.g).sum < d + x.g)
    ∧ (d ≤ row + (((gone ++ [x]).drop 1).map Story.g).sum
      ∨ (row + (((gone ++ [x]).drop 1).map Story.g).sum < d ∧ rest = [])) := by
  induction path with
  | nil =>
    intro st row
    exact ⟨[], st, [], rfl, .inl rfl, (Nat.lt_or_ge _ d).symm.imp_right fun h => ⟨h, rfl⟩⟩
  | cons next path ih =>
    intro st row
    by_cases hd : d ≤ row
    · exact ⟨[], st, next :: path, rfl, .inl rfl, .inl (by simpa using hd)⟩
    · obtain ⟨gone, x, rest, hpath, hroom, hends⟩ := ih next (row + next.g)
      have hsum : (((st :: gone ++ [x]).drop 1).map Story.g).sum
          = next.g + (((gone ++ [x]).drop 1).map Story.g).sum := by
        cases gone with
        | nil =>
          obtain ⟨rfl, -⟩ := List.cons.inj hpath
          simp
        | cons z zs =>
          obtain ⟨rfl, -⟩ := List.cons.inj hpath
          simp
      refine ⟨st :: gone, x, rest, by rw [hpath, List.cons_append], .inr ?_, ?_⟩ <;> rw [hsum]
      · rcases hroom with rfl | hlt
        · obtain ⟨rfl, -⟩ := List.cons.inj hpath
          simp only [List.nil_append, List.drop_one, List.tail_cons, List.map_nil, List.sum_nil]
          omega
        · omega
      · exact hends.imp (by omega) fun ⟨hlt, hrest⟩ => ⟨by omega, hrest⟩

/-! ## The last story of a path -/

/-- The last readable story of the rundown after a story has no readable story after it. -/
theorem readableAfter_last {s : State} {before after gone : List Story} {st x : Story} (hsplit : s.stories = before ++ st :: after)
    (hd : StoriesDistinct s) (hpath : st :: after.filter Story.readable = gone ++ [x]) : s.readableAfter x.id = [] := by
  cases gone with
  | nil =>
    obtain ⟨rfl, hnone⟩ := List.cons.inj hpath
    rw [readableAfter_of_split hsplit hd, hnone]
    rfl
  | cons z zs =>
    obtain ⟨-, hlast⟩ := List.cons.inj hpath
    obtain ⟨l1, l2, hafter, -, h2⟩ := List.filter_eq_append_iff.mp hlast
    obtain ⟨m1, m2, hl2, -, -, hm2⟩ := List.filter_eq_cons_iff.mp h2
    have hsplit' : s.stories = (before ++ st :: (l1 ++ m1)) ++ x :: m2 := by
      rw [hsplit, hafter, hl2]
      simp
    rw [readableAfter_of_split hsplit' hd, hm2]
    rfl

/-- The first readable story of the rundown before a story has no readable story before it. -/
theorem readableBefore_last {s : State} {before after gone : List Story} {st x : Story} (hsplit : s.stories = before ++ st :: after)
    (hd : StoriesDistinct s) (hpath : st :: before.reverse.filter Story.readable = gone ++ [x]) :
    s.readableBefore x.id = [] := by
  cases gone with
  | nil =>
    obtain ⟨rfl, hnone⟩ := List.cons.inj hpath
    rw [readableBefore_of_split hsplit hd, hnone]
    rfl
  | cons z zs =>
    obtain ⟨-, hlast⟩ := List.cons.inj hpath
    obtain ⟨l1, l2, hbefore, -, h2⟩ := List.filter_eq_append_iff.mp hlast
    obtain ⟨m1, m2, hl2, -, -, hm2⟩ := List.filter_eq_cons_iff.mp h2
    have hsplit' : s.stories = m2.reverse ++ x :: (m1.reverse ++ l1.reverse ++ st :: after) := by
      rw [hsplit, ← List.reverse_reverse before, hbefore, hl2]
      simp
    rw [readableBefore_of_split hsplit' hd, List.reverse_reverse, hm2]
    rfl

/-! ## The jog -/

section

variable {s : State} {c : ChannelId} {j : Int} {rp : ReadPoint} {st : Story} {before after : List Story} (hs : Grounded s)
  (h : InPlace s) (ht : Thins s (jog c j s)) (hrp : (s.channel c).readPoint = some rp) (hst : s.story? rp.story = some st)
  (hsplit : s.stories = before ++ st :: after)

include hs h ht hrp hst hsplit

theorem inPlace_jogForward (hj : 0 < j) (hend : (s.channel c).endFlag = false) :
    PlacedAt (jog c j s) c ∧ EdgedAt (jog c j s) c := by
  obtain ⟨hin, -, hstart⟩ := (h c).1 rp st hrp hst
  obtain ⟨⟨hd, -⟩, hgeometry, hspeeds⟩ := hs
  obtain ⟨⟨-, -, -, -, -, -, -, -, -, hstep, -⟩, -⟩ := hspeeds.channel c
  obtain ⟨gone, x, rest, hpath, hpassed, hends⟩ := forward_split (after.filter Story.readable) st
    (st.rowOf s.heights rp.k rp.o + j.natAbs * (s.channel c).tuning.jogStep)
  have hx : s.story? x.id = some x := State.story?_of_mem hd.1
    ((path_after hsplit hd).2 x (hpath ▸ List.mem_append_right gone List.mem_cons_self))
  obtain ⟨hinside, hclamp⟩ := ((jog_walks c j s).2 rp before st after gone x rest hrp hsplit hin hd hgeometry hstep).1
    hj hend hpath
  rcases hends with hlt | ⟨hle, rfl⟩
  · obtain ⟨rp', hholds, -, -, ⟨⟨hch, -⟩, -⟩⟩ := hinside hpassed hlt
    refine inPlace_at ht hx (by rw [hch]) hholds (fun e => ?_) (fun e => ?_) <;> rw [hch] at e
    · exact nomatch hend.symm.trans e
    · exact nomatch e
  · obtain ⟨⟨hch, -⟩, -⟩ := hclamp hle rfl
    refine inPlace_at ht hx (by rw [hch]) (x.lastPoint_holds hgeometry.1)
      (fun _ => ⟨rfl, readableAfter_last hsplit hd hpath⟩) (fun e => ?_)
    rw [hch] at e
    obtain ⟨e1, e2⟩ := Bool.and_eq_true_iff.mp e
    exact absurd ((of_decide_eq_true e2).symm.trans (hstart e1)) (lastPoint_ne_top x _ _)

theorem inPlace_jogBackward (hj : j < 0) (hstart : (s.channel c).startFlag = false) :
    PlacedAt (jog c j s) c ∧ EdgedAt (jog c j s) c := by
  obtain ⟨hin, hend, -⟩ := (h c).1 rp st hrp hst
  obtain ⟨⟨hd, -⟩, hgeometry, hspeeds⟩ := hs
  obtain ⟨⟨-, -, -, -, -, -, -, -, -, hstep, -⟩, -⟩ := hspeeds.channel c
  obtain ⟨gone, x, rest, hpath, hroom, hends⟩ := backward_split (before.reverse.filter Story.readable)
    (j.natAbs * (s.channel c).tuning.jogStep) st (st.rowOf s.heights rp.k rp.o)
  have hx : s.story? x.id = some x := State.story?_of_mem hd.1
    ((path_before hsplit hd).2 x (hpath ▸ List.mem_append_right gone List.mem_cons_self))
  obtain ⟨hinside, hclamp⟩ := ((jog_walks c j s).2 rp before st after gone x rest hrp hsplit hin hd hgeometry hstep).2
    hj hstart hpath hroom
  rcases hends with hle | ⟨hlt, rfl⟩
  · obtain ⟨rp', hholds, -, -, ⟨⟨hch, -⟩, -⟩⟩ := hinside hle
    refine inPlace_at ht hx (by rw [hch]) hholds (fun e => ?_) (fun e => ?_) <;> rw [hch] at e
    · exact nomatch e
    · exact nomatch hstart.symm.trans e
  · obtain ⟨⟨hch, -⟩, -⟩ := hclamp hlt rfl
    refine inPlace_at ht hx (by rw [hch]) (x.firstPoint_holds hgeometry.1) (fun e => ?_)
      (fun _ => ⟨rfl, readableBefore_last hsplit hd hpath⟩)
    rw [hch] at e
    obtain ⟨e1, e2⟩ := Bool.and_eq_true_iff.mp e
    exact absurd ((hend e1).symm.trans (of_decide_eq_true e2)) (lastPoint_ne_top st _ _)

end

theorem InPlace.jog {s : State} (hs : Grounded s) (h : InPlace s) (c : ChannelId) (j : Int) : InPlace (jog c j s) := by
  have ht : Thins s (Machine.jog c j s) := (thins_soft s).moves.jog s c j (.refl s)
  by_cases hidle : j = 0 ∨ s.currentStory c = none ∨ (0 < j ∧ (s.channel c).endFlag = true)
      ∨ (j < 0 ∧ (s.channel c).startFlag = true)
  · rw [jog_idle hidle]
    exact h
  · simp only [not_or, not_and, Bool.not_eq_true] at hidle
    obtain ⟨hj, hcur, hforward, hbackward⟩ := hidle
    obtain ⟨st, hcur⟩ := Option.ne_none_iff_exists'.mp hcur
    obtain ⟨rp, hrp, hst⟩ := Option.bind_eq_some_iff.mp hcur
    obtain ⟨before, after, hsplit⟩ := List.append_of_mem (State.story?_mem hst)
    refine h.moved ht (fun d hd => jog_other hd j s) ?_
    rcases Int.lt_or_gt_of_ne hj with hneg | hpos
    · exact inPlace_jogBackward hs h ht hrp hst hsplit hneg (hbackward hneg)
    · exact inPlace_jogForward hs h ht hrp hst hsplit hpos (hforward hpos)

/-! ## The presses -/

/-- A channel that has jumped stands on the first row of the story it jumped to. -/
theorem inPlace_of_jumps {s t : State} {c : ChannelId} {kind : LeaveKind} {old new : Nat} (hb : HeightsBounded s.heights)
    (ht : Thins s t) (hnew : s.isLive new = true) (hj : Jumps c kind old new s t) : PlacedAt t c ∧ EdgedAt t c := by
  obtain ⟨st, hst⟩ := story?_of_isLive hnew
  obtain ⟨⟨hch, -⟩, -⟩ := hj
  have hid := State.story?_id hst
  refine inPlace_at ht (story?_self hst) (by rw [hch]) (rp := ⟨new, 0, 0, 0⟩) (hid ▸ st.firstPoint_holds hb) (fun e => ?_)
    (fun e => ?_) <;> rw [hch] at e <;> exact nomatch e

theorem InPlace.next {s : State} (hs : Grounded s) (h : InPlace s) (c : ChannelId) : InPlace (nextPress c s) := by
  have ht : Thins s (nextPress c s) := (thins_soft s).moves.next s c (.refl s)
  refine h.moved ht (fun d hd => nextPress_other hd s) ?_
  obtain ⟨hnone, hlast, hjumps⟩ := next_jumps c s
  cases hcur : s.currentStory c with
  | none => rw [hnone hcur]; exact h c
  | some st =>
    cases hafter : s.readableAfter st.id with
    | nil => rw [hlast st hcur hafter]; exact h c
    | cons next rest =>
      exact inPlace_of_jumps hs.2.1.1 ht (isLive_of_readableAfter (hafter ▸ List.mem_cons_self))
        (hjumps st next rest hcur hafter)

theorem InPlace.prev {s : State} (hs : Grounded s) (h : InPlace s) (c : ChannelId) : InPlace (prevPress c s) := by
  have ht : Thins s (prevPress c s) := (thins_soft s).moves.prev s c (.refl s)
  refine h.moved ht (fun d hd => prevPress_other hd s) ?_
  obtain ⟨hnone, htop, hlast, hjumps⟩ := prev_jumps c s
  cases hrp : (s.channel c).readPoint with
  | none => rw [hnone hrp]; exact h c
  | some rp =>
    by_cases hk : 1 ≤ rp.k
    · obtain ⟨st, hst⟩ := hs.located hrp
      obtain ⟨-, -, hstart⟩ := (h c).1 rp st hrp hst
      obtain ⟨⟨hch, -⟩, -⟩ := htop rp hrp hk
      have hid := State.story?_id hst
      refine inPlace_at ht (story?_self hst) (by rw [hch]) (rp := ⟨rp.story, 0, 0, 0⟩)
        (hid ▸ st.firstPoint_holds hs.2.1.1) (fun e => ?_) (fun e => ?_) <;> rw [hch] at e
      · exact nomatch e
      · rw [hstart e] at hk
        exact absurd hk (Nat.not_succ_le_zero 0)
    · have hk0 : rp.k = 0 := by omega
      cases hbefore : s.readableBefore rp.story with
      | nil => rw [hlast rp hrp hk0 hbefore]; exact h c
      | cons before rest =>
        exact inPlace_of_jumps hs.2.1.1 ht (isLive_of_readableBefore (hbefore ▸ List.mem_cons_self))
          (hjumps rp before rest hrp hk0 hbefore)

/-! ## All of them -/

theorem inPlace_calm : Calm InPlace where
  station s p f h _ := h.thins (.of_eq rfl rfl) fun c => unmoved_of_eq (State.modStation_channel s p f c)
  marks s c h := h.thins (.of_eq rfl rfl) fun d => unmoved_of_eq (by cases d <;> rfl)
  arbiter s c r h := h.thins (.of_eq (State.setArbiter_heights s c r) (State.setArbiter_stories s c r))
    fun d => unmoved_of_eq (by cases c <;> cases d <;> rfl)
  calm s c ch h _ hu := h.thins (.of_eq (State.setChannel_heights s c ch) (State.setChannel_stories s c ch)) fun d => by
    by_cases hd : d = c
    · subst hd
      rw [State.setChannel_same]
      exact hu
    · exact unmoved_of_eq (State.setChannel_other s hd ch)

/-- The movements keep the read points inside, on grounds that they keep as well. -/
theorem inPlace_moves : Moves (fun s => Grounded s ∧ InPlace s) where
  calm :=
    { station := fun s p f h hf => ⟨grounded_moves.calm.station s p f h.1 hf, inPlace_calm.station s p f h.2 hf⟩
      marks := fun s c h => ⟨grounded_moves.calm.marks s c h.1, inPlace_calm.marks s c h.2⟩
      arbiter := fun s c r h => ⟨grounded_moves.calm.arbiter s c r h.1, inPlace_calm.arbiter s c r h.2⟩
      calm := fun s c ch h ht hu => ⟨grounded_moves.calm.calm s c ch h.1 ht hu, inPlace_calm.calm s c ch h.2 ht hu⟩ }
  next s c h := ⟨grounded_moves.next s c h.1, h.2.next h.1 c⟩
  prev s c h := ⟨grounded_moves.prev s c h.1, h.2.prev h.1 c⟩
  jog s c j h := ⟨grounded_moves.jog s c j h.1, h.2.jog h.1 c j⟩
  ramp s c h := ⟨grounded_moves.ramp s c h.1, h.2.ramp h.1 c⟩

end Sys2Proof.Machine
end

section
/-! PROOF. The notices keep the read points inside (R59, R87 to R91, R31): the order change, the splice and the new heights. -/

namespace Sys2Proof.Machine

/-! ## The order-change notice -/

/-- A read point stays inside while its story keeps its shape. -/
theorem PlacedAt.of_mem {s t : State} {c : ChannelId} (h : PlacedAt s c) (hd : StoriesDistinct s)
    (hh : t.heights = s.heights) (hu : Unmoved s c (t.channel c))
    (hmem : ∀ y ∈ t.stories, (s.channel c).storyId = some y.id → ∃ x ∈ s.stories, SameShape x y) : PlacedAt t c := by
  intro rp y hrp hy
  have hrp' := hu.1.symm.trans hrp
  have hid := State.story?_id hy
  obtain ⟨x, hx, hshape⟩ := hmem y (State.story?_mem hy) (by rw [hid, Travels.storyId_of_readPoint hrp'])
  have hst : s.story? rp.story = some x := by
    rw [← hid, hshape.1]
    exact State.story?_of_mem hd.1 hx
  obtain ⟨hin, hend, hstart⟩ := h rp x hrp' hst
  rw [hh, hshape.holds, hshape.lastPoint, hshape.1]
  exact ⟨hin, fun e => hend (hu.2.1 e), fun e => hstart (hu.2.2 e)⟩

/-- The order-change notice clears END and START where a readable story has come to lie beyond them (R59). -/
theorem orderNotice_flags (u : State) (c : ChannelId) : Unmoved u c ((orderNotice u).channel c)
    ∧ ∀ rp, (u.channel c).readPoint = some rp →
      (((orderNotice u).channel c).endFlag = true → u.readableAfter rp.story = [])
      ∧ (((orderNotice u).channel c).startFlag = true → u.readableBefore rp.story = []) := by
  have hstories := orderNotice_stories u
  have ha (i : Nat) : (orderNotice u).readableAfter i = u.readableAfter i := by
    rw [State.readableAfter, hstories]
    rfl
  have hb (i : Nat) : (orderNotice u).readableBefore i = u.readableBefore i := by
    rw [State.readableBefore, hstories]
    rfl
  have hnoticed := orderNotice_noticed (s := u) (u := u) (fun _ => rfl) (st := .ok) (e := 0) (p := .empty) c
  unfold OrderNoticed at hnoticed
  simp only [State.respond_channel, State.respond_readableAfter, State.respond_readableBefore, ha, hb] at hnoticed
  cases hrp : (u.channel c).readPoint with
  | none =>
    rw [hrp] at hnoticed
    exact ⟨unmoved_of_eq hnoticed, fun _ h => nomatch h⟩
  | some rp =>
    rw [hrp] at hnoticed
    dsimp only at hnoticed
    rw [hnoticed]
    refine ⟨⟨hrp.symm, fun e => (Bool.and_eq_true_iff.mp e).1, fun e => (Bool.and_eq_true_iff.mp e).1⟩, fun rp' h => ?_⟩
    obtain rfl := Option.some_inj.mp h
    exact ⟨fun e => List.isEmpty_iff.mp (Bool.and_eq_true_iff.mp e).2,
      fun e => List.isEmpty_iff.mp (Bool.and_eq_true_iff.mp e).2⟩

theorem InPlace.noticed {u : State} (h : ∀ c, PlacedAt u c) : InPlace (orderNotice u) := by
  have ht : Thins u (orderNotice u) := .of_eq (by rw [channelsOnly_orderNotice u]) (orderNotice_stories u)
  intro c
  obtain ⟨hu, hedges⟩ := orderNotice_flags u c
  refine ⟨(h c).thins ht hu, fun rp st hrp hst => ?_⟩
  obtain ⟨hend, hstart⟩ := hedges rp (hu.1.symm.trans hrp)
  rw [State.story?_id hst]
  exact ⟨fun e => ht.after _ (hend e), fun e => ht.before _ (isLive_of_story? hst) (hstart e)⟩

/-! ## The splice -/

/-- The lines of a spliced story before the place of the splice and behind it. -/
theorem spliced_heightAt {st : Story} {ls : List Line} {k m : Nat} (h1 : 1 ≤ k) (h2 : k + m ≤ st.n + 1) (h : Heights) :
    (∀ i, i < k → (st.spliced h k m ls).heightAt h i = st.heightAt h i)
    ∧ ∀ i, k + m ≤ i → (st.spliced h k m ls).heightAt h (i + ls.length - m) = st.heightAt h i := by
  unfold Story.n at h2
  have hlines : (st.spliced h k m ls).lines = spliceLines st.lines k m ls := rfl
  have htake : (st.lines.take (k - 1)).length = k - 1 := by
    rw [List.length_take]
    omega
  refine ⟨fun i hi => ?_, fun i hi => ?_⟩
  · unfold Story.heightAt
    split
    · rfl
    · rw [hlines, spliceLines, List.append_assoc, List.getElem?_append_left (by omega), List.getElem?_take_of_lt (by omega)]
  · unfold Story.heightAt
    rw [if_neg (by omega), if_neg (by omega), hlines, spliceLines, List.getElem?_append_right (by simp; omega),
      List.getElem?_drop]
    rw [show k - 1 + m + (i + ls.length - m - 1 - (st.lines.take (k - 1) ++ ls).length) = i - 1 by
      rw [List.length_append]; omega]

/-- The anchored read point lies inside the spliced story (R87 to R90). -/
theorem anchor_holds {s : State} {id k m : Nat} {st : Story} {ls : List Line} (hsp : Spliceable s id k m st ls) {h : Heights}
    (hb : HeightsBounded h) {rp : ReadPoint} (hin : st.holds h rp) :
    (st.spliced h k m ls).holds h (anchor rp k m ls.length (st.spliced h k m ls).n) := by
  obtain ⟨hid, hk, ho, hf⟩ := hin
  have hlen : (st.spliced h k m ls).n + m = st.n + ls.length := length_spliceLines hsp.first hsp.last
  obtain ⟨hbefore, hbehind⟩ := spliced_heightAt (ls := ls) hsp.first hsp.last h
  have hlast := hsp.last
  rw [anchor_eq]
  split
  · rename_i hlt
    exact ⟨hid, by omega, by rw [hbefore _ hlt]; exact ho, hf⟩
  · split
    · rename_i hge hpast
      refine ⟨hid, by dsimp only; omega, ?_, hf⟩
      rw [hbehind _ (by omega)]
      exact ho
    · have hmin : min k (st.spliced h k m ls).n ≤ (st.spliced h k m ls).n := Nat.min_le_right _ _
      have := (st.spliced h k m ls).heightAt_ge hb hmin
      exact ⟨hid, hmin, by dsimp only; omega, Nat.zero_le _⟩

/-- The records after a splice, and the readable stories around them. -/
theorem spliceState_records {s : State} (hd : StoriesDistinct s) {id k m : Nat} {st : Story} {ls : List Line}
    (hst : s.story? id = some st) (i : Nat) : (spliceState id k m st ls s).story? i
        = (s.story? i).map (fun x => if x.id = id then st.spliced s.heights k m ls else x)
      ∧ (s.readableAfter i = [] → (spliceState id k m st ls s).readableAfter i = [])
      ∧ (s.readableBefore i = [] → (spliceState id k m st ls s).readableBefore i = []) := by
  have hstories : (spliceState id k m st ls s).stories
      = s.stories.map (fun x => if x.id = id then st.spliced s.heights k m ls else x) := by
    rw [spliceState_frame]
  have hsame {x : Story} (hx : x ∈ s.stories) (hid : x.id = id) : x = st := eq_of_story? hd hst hx hid
  have hids : ∀ x ∈ s.stories, (if x.id = id then st.spliced s.heights k m ls else x).id = x.id := by
    intro x hx
    split
    · rename_i hid
      rw [hsame hx hid]
      rfl
    · rfl
  refine ⟨?_, readable_nil_of_map hstories hids (fun x hx hr => ?_) i⟩
  · rw [State.story?, hstories]
    exact find?_map_of_id hids i
  · split
    · rename_i hid
      rw [hsame hx hid] at hr
      exact hr
    · exact hr

theorem InPlace.spliced {s : State} (hs : Grounded s) (h : InPlace s) {id k m : Nat} {st : Story} {ls : List Line}
    (hsp : Spliceable s id k m st ls) : InPlace (spliceState id k m st ls s) := by
  have hheights : (spliceState id k m st ls s).heights = s.heights := by rw [spliceState_frame]
  have hrecords := spliceState_records (k := k) (m := m) (ls := ls) hs.1.1 hsp.live
  have hsid := State.story?_id hsp.live
  intro c
  obtain ⟨houtside, hinside⟩ := spliceState_channel (k := k) (m := m) hsp.live ls c
  cases hrp : (s.channel c).readPoint with
  | none => exact inPlace_of_none (by rw [houtside fun rp h => (nomatch hrp.symm.trans h)]; exact hrp)
  | some rp =>
    obtain ⟨x, hx⟩ := hs.located hrp
    obtain ⟨hin, hend, hstart⟩ := (h c).1 rp x hrp hx
    obtain ⟨hafter, hbefore⟩ := (h c).2 rp x hrp hx
    by_cases hid : rp.story = id
    · obtain rfl : st = x := Option.some_inj.mp (hsp.live.symm.trans (hid ▸ hx))
      have hopen : st.opens c = true := (((openSetsExact_iff s).mp hs.1.2 c).1.opens st (State.story?_mem hx)).mpr
        (by rw [Travels.storyId_of_readPoint hrp, State.story?_id hx])
      have hch := hinside rp hrp hid hopen
      dsimp only at hch
      have hself : (spliceState id k m st ls s).story? (st.spliced s.heights k m ls).id
          = some (st.spliced s.heights k m ls) := by
        rw [show (st.spliced s.heights k m ls).id = id from hsid, (hrecords id).1, hsp.live, Option.map_some, if_pos hsid]
      refine inPlace_at (.refl _) hself (rp := anchor rp k m ls.length (st.spliced s.heights k m ls).n) (by rw [hch])
        (hheights ▸ anchor_holds hsp hs.2.1.1 hin) (fun e => ?_) (fun e => ?_)
        <;> rw [hch] at e
      · obtain ⟨e1, e2⟩ := Bool.and_eq_true_iff.mp e
        exact ⟨(of_decide_eq_true e2).trans (by rw [hheights]), (hrecords _).2.1 (hafter e1)⟩
      · refine ⟨?_, (hrecords _).2.2 (hbefore e)⟩
        rw [hstart e, anchor_eq]
        exact if_pos hsp.first
    · have hch := houtside fun rp' h => by
        obtain rfl := Option.some_inj.mp (hrp.symm.trans h)
        exact fun hi => hid hi.1
      have hstory : (spliceState id k m st ls s).story? rp.story = some x := by
        rw [(hrecords _).1, hx, Option.map_some, if_neg (by rw [State.story?_id hx]; exact hid)]
      have hself : (spliceState id k m st ls s).story? x.id = some x := by rwa [State.story?_id hx]
      refine inPlace_at (.refl _) hself (by rw [hch]; exact hrp) (hheights ▸ hin) (fun e => ?_) (fun e => ?_)
        <;> rw [hch] at e
      · exact ⟨(hend e).trans (by rw [hheights]), (hrecords _).2.1 (hafter e)⟩
      · exact ⟨hstart e, (hrecords _).2.2 (hbefore e)⟩

/-! ## The new heights -/

/-- The completion of a geometry recompute brings the read points of PARKED channels within the new heights (R31). -/
theorem InPlace.adjusted {s : State} (hs : Grounded s) (hp : InPlace s) {h : Heights} (hb : HeightsBounded h)
    (hlive : ∀ c, (s.channel c).state ≠ .live) :
    InPlace (geometryAdjust .b (geometryAdjust .a (measuredState h s))) := by
  intro c
  obtain ⟨v, hvch, hvstories, hvheights, hch⟩ := geometryAdjusts_channel c (measuredState h s)
  have honly := (channelsOnly_geometryAdjust .a (measuredState h s)).trans (channelsOnly_geometryAdjust .b _)
  generalize geometryAdjust .b (geometryAdjust .a (measuredState h s)) = t at hch honly
  have hheights : t.heights = h := by rw [honly]; rfl
  have hstories : t.stories = s.stories.map Story.measured := by rw [honly]; rfl
  have hfound (i : Nat) : t.story? i = (s.story? i).map Story.measured :=
    (story?_of_stories (by rw [honly]) i).trans (measuredState_story? h s i)
  have hnil := readable_nil_of_map hstories (fun _ _ => rfl) (fun _ _ hr => hr)
  have hsame : (measuredState h s).channel c = s.channel c := by cases c <;> rfl
  rw [hsame] at hvch
  cases hrp : (s.channel c).readPoint with
  | none =>
    have hcur : v.currentStory c = none := by rw [State.currentStory, hvch, hrp]; rfl
    exact inPlace_of_none (by rw [hch, geometryAdjust_idle (.inr hcur), hvch]; exact hrp)
  | some rp =>
    obtain ⟨x, hx⟩ := hs.located hrp
    obtain ⟨⟨hid, hk, -, hf⟩, hend, hstart⟩ := (hp c).1 rp x hrp hx
    obtain ⟨hafter, hbefore⟩ := (hp c).2 rp x hrp hx
    have hparked : (s.channel c).state = .parked := by
      cases hstate : (s.channel c).state with
      | unloaded => exact nomatch hrp.symm.trans ((((openSetsExact_iff s).mp hs.1.2 c).2).mp hstate)
      | parked => rfl
      | live => exact absurd hstate (hlive c)
    have hvst : v.story? rp.story = some x.measured := by
      rw [story?_of_stories hvstories, measuredState_story?, hx, Option.map_some]
    have hadjusted := geometryAdjust_parked (by rw [hvch]; exact hparked) (by rw [hvch]; exact hrp) hvst
    rw [← hch, hvch, hvheights, show (measuredState h s).heights = h from rfl] at hadjusted
    have hself : t.story? x.measured.id = some x.measured := by
      rw [show x.measured.id = x.id from rfl, hfound, story?_self hx, Option.map_some]
    have hhigh := x.measured.heightAt_ge hb hk
    cases hflag : (s.channel c).endFlag with
    | true =>
      rw [hflag, if_pos rfl] at hadjusted
      refine inPlace_at (.refl t) hself (rp := x.measured.lastPoint h) (by rw [hadjusted])
        (by rw [hheights]; exact x.measured.lastPoint_holds hb)
        (fun _ => ⟨by rw [hheights], (hnil _).1 (hafter hflag)⟩) (fun e => ?_)
      rw [hadjusted] at e
      exact absurd ((hend hflag).symm.trans (hstart e)) (lastPoint_ne_top x _ _)
    | false =>
      rw [hflag, if_neg Bool.false_ne_true] at hadjusted
      have hnot : (t.channel c).endFlag ≠ true := by rw [hadjusted]; simp [hflag]
      have hflags : (t.channel c).startFlag = (s.channel c).startFlag := by rw [hadjusted]
      by_cases hover : x.measured.heightAt h rp.k ≤ rp.o
      · rw [if_pos hover] at hadjusted
        refine inPlace_at (.refl t) hself (rp := ⟨rp.story, rp.k, x.measured.heightAt h rp.k - 1, 0⟩) (by rw [hadjusted])
          ⟨hid, hk, by rw [hheights]; exact Nat.sub_one_lt (by omega), Nat.zero_le _⟩ (fun e => absurd e hnot) (fun e => ?_)
        rw [hstart (hflags ▸ e)] at hover hhigh
        dsimp only at hover hhigh
        omega
      · rw [if_neg hover] at hadjusted
        refine inPlace_at (.refl t) hself (rp := rp) (by rw [hadjusted])
          ⟨hid, hk, by rw [hheights]; exact Nat.lt_of_not_le hover, hf⟩ (fun e => absurd e hnot) (fun e => ?_)
        exact ⟨hstart (hflags ▸ e), (hnil _).2 (hbefore (hflags ▸ e))⟩

end Sys2Proof.Machine
end

section
/-! PROOF. Every kind of event keeps the read points inside their stories and the clamps at the edges (O56). -/

namespace Sys2Proof.Machine

theorem InPlace.same {s t : State} (h : InPlace s) (hh : t.heights = s.heights) (hst : t.stories = s.stories)
    (hc : ∀ c, t.channel c = s.channel c) : InPlace t := h.thins (.of_eq hh hst) fun c => unmoved_of_eq (hc c)

theorem InPlace.link {s : State} (h : InPlace s) (l : Link) : InPlace { s with link := l } :=
  h.same rfl rfl fun c => by cases c <;> rfl

theorem InPlace.respond {s : State} (h : InPlace s) (status : Status) (code : Byte) (payload : Payload) :
    InPlace (s.respond status code payload) := h.link _

/-- A write to one channel that keeps its read point and sets neither END nor START. -/
theorem InPlace.writes {s : State} (h : InPlace s) (c : ChannelId) {f : Channel → Channel}
    (hu : Unmoved s c (f (s.channel c))) : InPlace (s.modChannel c f) := by
  refine h.thins (.of_eq (State.modChannel_heights s c f) (State.modChannel_stories s c f)) fun d => ?_
  by_cases hd : d = c
  · subst hd
    rw [State.modChannel_same]
    exact hu
  · exact unmoved_of_eq (State.modChannel_other s hd f)

/-- Nothing is inside an empty rundown. -/
theorem inPlace_empty {s : State} (h : s.stories = []) : InPlace s := by
  have hnone (i : Nat) (st : Story) (hst : s.story? i = some st) : False := by
    rw [State.story?, h] at hst
    exact nomatch hst
  exact fun c => ⟨fun _ _ _ hst => (hnone _ _ hst).elim, fun _ _ _ hst => (hnone _ _ hst).elim⟩

/-! ## Loads and unloads -/

theorem Thins.vacated (s : State) (c : ChannelId) : Thins s (s.vacated c) := by
  unfold State.vacated
  split
  · exact .leave c _ _ s
  · exact .refl s

theorem Thins.loaded (c : ChannelId) (rp : ReadPoint) (s : State) : Thins s (loadState c rp s) := by
  have hplaced := (thins_soft s).place (Thins.vacated s c) c rp
  have hresting := (thins_soft s).calm.atRest ((thins_soft s).enter hplaced c rp.story) c
  rw [loadState_eq]
  exact hresting.trans (.of_eq (State.modChannel_heights _ c _) (State.modChannel_stories _ c _))

theorem InPlace.loaded {s : State} (hs : Grounded s) (h : InPlace s) (c : ChannelId) (k : Nat) {id : Nat} {st : Story}
    (hst : s.story? id = some st) : InPlace (loadState c ⟨id, min k st.n, 0, 0⟩ s) := by
  have ht := Thins.loaded c ⟨id, min k st.n, 0, 0⟩ s
  refine h.moved ht (fun d hd => loadState_channel_other hd _ s) ?_
  have hch := loadState_channel_same c ⟨id, min k st.n, 0, 0⟩ s
  have hk : min k st.n ≤ st.n := Nat.min_le_right _ _
  have hhigh := st.heightAt_ge hs.2.1.1 hk
  refine inPlace_at ht (story?_self hst) (by rw [hch])
    ⟨(State.story?_id hst).symm, hk, by dsimp only; omega, Nat.zero_le _⟩ (fun e => ?_) (fun e => ?_) <;> rw [hch] at e <;>
    exact nomatch e

theorem InPlace.unloaded {s : State} (h : InPlace s) (c : ChannelId) : InPlace (unload c s) := by
  have ht : Thins s (unload c s) := (thins_soft s).unload (.refl s) c
  refine h.moved ht (fun d hd => unload_channel_other hd s) ?_
  by_cases hun : (s.channel c).state = .unloaded
  · rw [unload_of_unloaded hun]
    exact h c
  · exact inPlace_of_none (by rw [unload_channel_same hun]; rfl)

/-! ## The settings -/

theorem InPlace.setting {s t : State} (h : InPlace s) (hset : Setting s t) : InPlace t := by
  have same {u : State} (hh : u.heights = s.heights) (hst : u.stories = s.stories)
      (hc : ∀ c, u.channel c = s.channel c) : InPlace u := h.same hh hst hc
  cases hset with
  | channelRead c =>
    have hread : InPlace (s.modChannel c (fun ch => { ch with
        storyChanged := false, ownerChanged := false, endReached := false, marked := false, mark := none })) :=
      h.writes c ⟨rfl, id, id⟩
    unfold statusChannel
    split
    · exact hread.same rfl rfl fun d => by cases d <;> rfl
    · exact hread
  | stationSet p f lapse hand =>
    have hset (l n : Nat) : InPlace { s with lapseTime := l, handOff := n } := same rfl rfl fun d => by cases d <;> rfl
    split
    · exact inPlace_calm.reconfigure (hset _ _) p f
    · exact hset _ _
  | stationRead p => exact same rfl rfl fun d => by cases d <;> rfl
  | attached q c => exact same rfl rfl fun d => by cases d <;> rfl
  | detached q => exact same rfl rfl fun d => by cases d <;> rfl
  | headRead q => exact same rfl rfl fun d => by cases d <;> rfl
  | clockSet v => exact same rfl rfl fun d => by cases d <;> rfl
  | clockHeld => unfold cmdClockHold; split <;> exact same rfl rfl fun d => by cases d <;> rfl
  | clockResumed => unfold cmdClockResume; split <;> exact same rfl rfl fun d => by cases d <;> rfl
  | timingRead => exact same rfl rfl fun d => by cases d <;> rfl
  | lead c => exact same rfl rfl fun d => by cases d <;> rfl
  | output o a width level => exact same rfl rfl fun d => by cases d <;> rfl

/-! ## The commands -/

/-- A change of one record that keeps its shape and does not make it readable. -/
theorem InPlace.modStory {s : State} (h : InPlace s) (id : Nat) {f : Story → Story}
    (hf : ∀ x ∈ s.stories, x.id = id → Fades x (f x)) : InPlace (s.modStory id f) :=
  h.thins (.modStory id hf) fun c => unmoved_of_eq (State.modStory_channel s id f c)

/-- A change of the running order, before its notice. -/
theorem InPlace.reordered {s u : State} (hs : Grounded s) (h : InPlace s) (hh : u.heights = s.heights)
    (hc : ∀ c, u.channel c = s.channel c)
    (hmem : ∀ y ∈ u.stories, s.isLive y.id = true → ∃ x ∈ s.stories, SameShape x y) : InPlace (orderNotice u) := by
  refine .noticed fun c => (h c).1.of_mem hs.1.1 hh (unmoved_of_eq (hc c)) fun y hy hid => hmem y hy ?_
  exact State.isLive_iff_mem.mpr ((((openSetsExact_iff s).mp hs.1.2 c).1).live y.id hid)

theorem InPlace.effect {s t : State} (hs : Grounded s) (h : InPlace s) (he : Effect s t) : InPlace t := by
  cases he with
  | nothing => exact h
  | inserted id anchor h0 hid hnew hroom =>
    refine h.reordered hs rfl (fun c => by cases c <;> rfl) fun y hy hlive => ?_
    rcases List.mem_cons.mp ((insertAfter_perm anchor _ _).mem_iff.mp hy) with rfl | hy
    · exact nomatch hnew.symm.trans hlive
    · exact ⟨y, hy, .refl y⟩
  | moved id anchor st hst =>
    refine h.reordered hs rfl (fun c => by cases c <;> rfl) fun y hy _ => ⟨y, ?_, .refl y⟩
    exact (perm_move hs.1.1.1 hst anchor).mem_iff.mp hy
  | floated id st hst hair hf =>
    exact (h.modStory id (f := fun x => { x with floated := true }) fun x _ _ =>
      ⟨⟨rfl, rfl⟩, fun hr => by simp [Story.readable] at hr⟩).same rfl rfl fun d => by cases d <;> rfl
  | restored id st hst hair hf =>
    refine h.reordered hs rfl (fun c => by cases c <;> rfl) fun y hy _ => ?_
    obtain ⟨x, hx, rfl⟩ := List.mem_map.mp hy
    refine ⟨x, hx, ?_⟩
    split <;> exact ⟨rfl, rfl⟩
  | killed id => exact h.thins (.kill id s) fun c => unmoved_of_eq (by rw [kill_frame]; cases c <;> rfl)
  | written id st st' hst hair hw =>
    refine (h.modStory id (f := fun _ => st') fun x hx hid => ?_).same rfl rfl fun d => by cases d <;> rfl
    obtain rfl := eq_of_story? hs.1.1 hst hx hid
    rw [hw.1]
    exact ⟨⟨rfl, rfl⟩, fun hr => hr⟩
  | locked id l => exact h.modStory id fun x _ _ => ⟨⟨rfl, rfl⟩, fun hr => hr⟩
  | spliced id k m st ls hsp => exact h.spliced hs hsp
  | rearmed id => exact h.modStory id fun x _ _ => ⟨⟨rfl, cls_map_fired x.lines false⟩, fun hr => hr⟩
  | loaded c id k st hst hr => exact h.loaded hs c k hst
  | ran c hparked => exact inPlace_calm.recompute (h.writes c (f := Channel.run) ⟨rfl, fun e => e, fun e => e⟩) c
  | parked c hlive => exact h.writes c ⟨rfl, fun e => e, fun e => e⟩
  | unloaded c => exact h.unloaded c
  | tuned c f curve => exact inPlace_calm.recompute (h.writes c ⟨rfl, fun e => e, fun e => e⟩) c
  | channelRead c => exact h.setting (.channelRead c)
  | stationSet p f lapse hand => exact h.setting (.stationSet p f lapse hand)
  | stationRead p => exact h.setting (.stationRead p)
  | attached q c => exact h.setting (.attached q c)
  | detached q => exact h.setting (.detached q)
  | headRead q => exact h.setting (.headRead q)
  | clockSet v => exact h.setting (.clockSet v)
  | clockHeld => exact h.setting .clockHeld
  | clockResumed => exact h.setting .clockResumed
  | timingRead => exact h.setting .timingRead
  | lead c => exact h.setting (.lead c)
  | output o a width level => exact h.setting (.output o a width level)

theorem InPlace.concluded {s t : State} (hs : Grounded s) (h : InPlace s) (hc : Concluded s t) : InPlace t := by
  cases hc with
  | answered u status code payload he => exact (h.effect hs he).respond status code payload
  | checking id st hst =>
    exact (h.modStory id (f := fun x => { x with checkInFlight := true }) fun x _ _ =>
      ⟨⟨rfl, rfl⟩, fun hr => hr⟩).link _
  | clearing n u hu =>
    have hclear : InPlace { s with clearInProgress := true } := h.same rfl rfl fun d => by cases d <;> rfl
    rw [hu]
    exact ((hclear.unloaded .a).unloaded .b).link _
  | recomputing g ha hb =>
    exact h.thins (.map rfl rfl fun x _ => ⟨⟨rfl, rfl⟩, fun hr => hr⟩) fun d => unmoved_of_eq (by cases d <;> rfl)

/-! ## Completions -/

theorem InPlace.finishCheck {s : State} (h : InPlace s) : InPlace (finishCheck s) := by
  unfold Machine.finishCheck
  split
  · rename_i id _
    unfold completeCheck
    split
    · exact h.link _
    · exact (h.modStory id (f := fun x => { x with checkInFlight := false }) fun x _ _ =>
        ⟨⟨rfl, rfl⟩, fun hr => hr⟩).link _
  · exact h

theorem InPlace.finishClear {s : State} (h : InPlace s) : InPlace (finishClear s) := by
  unfold Machine.finishClear
  split
  · exact inPlace_empty rfl
  · exact h

theorem InPlace.finishGeometry {s : State} (ho : OperationsExact s) (hs : Grounded s) (h : InPlace s) :
    InPlace (finishGeometry s) := by
  unfold Machine.finishGeometry
  split
  · cases hp : s.pendingHeights with
    | none => simpa [completeGeometry, hp] using h
    | some g =>
      rw [completeGeometry_eq hp]
      have hb := (hs.2.1.2.2.1 g hp).1
      obtain ⟨ha, hb'⟩ := ho.2.2.2.1 (by rw [hp]; rfl)
      have hadjusted := InPlace.adjusted hs h hb fun c => by cases c <;> assumption
      exact hadjusted.same rfl rfl fun d => by cases d <;> rfl
  · exact h

theorem InPlace.startUp {s : State} (h : InPlace s) (rate : Strap) : InPlace (startUp rate s) := by
  unfold Machine.startUp
  split
  · exact h
  · exact h.thins (.of_eq rfl rfl) fun c => by cases c <;> exact ⟨rfl, fun e => e, fun e => e⟩

theorem inPlace_headless : Headless InPlace := fun _ _ h => h.same rfl rfl fun d => by cases d <;> rfl

theorem grounded_headless : Headless Grounded := fun s v h =>
  ⟨distinctOpen_headless s v h.1, geometryExact_headless s v h.2.1, speedsBounded_headless s v h.2.2⟩

/-! ## Every step -/

theorem inPlace_kept : Kept (fun s => OperationsExact s ∧ Grounded s) InPlace where
  unqueue s q h := h.same rfl rfl fun d => by cases d <;> rfl
  tick s _ h := h.same rfl rfl fun d => by cases d <;> rfl
  reset s := inPlace_empty rfl
  startUp s rate _ h := h.startUp rate
  fed s c _ h := h.link _
  hunting s _ h := h.link _
  slot s code _ h _ := h.link _
  misfit s status code _ h _ := h.respond status code .empty
  command cmd s hf hq h _ := h.concluded hq.2 (concluded_take hf s)
  sent s _ h := by
    unfold gatewaySent
    split
    · split
      · exact h.link _
      · split <;> exact h.link _
    · exact h
  checked s _ h := h.finishCheck
  cleared s _ h := h.finishClear
  recomputed s hq h := h.finishGeometry hq.1 hq.2
  channelStep s c hq h := (inPlace_moves.channelStep
    (fun s v h => ⟨grounded_headless s v h.1, inPlace_headless s v h.2⟩) ⟨hq.2, h⟩ c).2
  second s _ h := by
    unfold countSecond
    split
    · exact h
    · exact h.same rfl rfl fun d => by cases d <;> rfl
  pulse s o _ h := h.same rfl rfl fun d => by cases d <;> rfl
  stationChar s p c hq h := (inPlace_moves.stationChar ⟨hq.2, h⟩ p c).2
  stationGap s p hq h := (inPlace_moves.stationGap ⟨hq.2, h⟩ p).2
  lapse s p _ h := inPlace_calm.lapse h p
  answerSent s p hq h := (inPlace_moves.answerSent ⟨hq.2, h⟩ p).2
  headChar s hd c _ h := inPlace_headless.headChar h hd c
  headGap s hd _ h := inPlace_headless.headGap h hd
  headSent s hd _ h := inPlace_headless.headSent h hd

/-- The operations in flight and the grounds of a movement together. -/
theorem grounded_kept : Kept Always (fun s => OperationsExact s ∧ Grounded s) :=
  operationsExact_kept.and
    (((storiesDistinct_books.kept.mono fun _ _ => trivial).and (openSetsExact_kept.mono fun _ h => ⟨h.1.2, h.2⟩)).and
      ((geometryExact_kept.mono fun _ h => h.1.2).and (speedsBounded_kept.mono fun _ _ => trivial)))

/-- Sections 3.1, 3.5, 4.3, 4.4, 4.5 and 5.2. Settles O56. -/
theorem everyStepKeepsReadPointsInside : Obligations.EveryStepKeepsReadPointsInside := by
  rintro s t hst ⟨hd, hopen, hops, hgeometry, hspeeds, hinside, hclamps⟩
  obtain ⟨⟨hops', ⟨hd', hopen'⟩, hgeometry', hspeeds'⟩, hplace⟩ :=
    (grounded_kept.and (inPlace_kept.mono fun _ h => h.2)).step hst
      ⟨⟨hops, ⟨hd, hopen⟩, hgeometry, hspeeds⟩, (inPlace_iff s).mpr ⟨hinside, hclamps⟩⟩
  obtain ⟨hinside', hclamps'⟩ := (inPlace_iff t).mp hplace
  exact ⟨hd', hopen', hops', hgeometry', hspeeds', hinside', hclamps'⟩

end Sys2Proof.Machine
end
